-- ==== Sys2Proof/Word.lean ====
section
/-! DEFINITION. The word types of the spec (00_scope.md R13: a byte is an unsigned 8-bit value, bit 0 is the
least significant bit). -/

namespace Sys2Proof

/-- A byte on the wire or in a one-byte register. -/
abbrev Byte := BitVec 8

/-- The 6-bit addressId of a frame (R7, `ID_W`). -/
abbrev FrameId := BitVec 6

/-- A command word, or the 32 bits a register read returns (R61, R95). -/
abbrev Word32 := BitVec 32

end Sys2Proof
end

