-- ==== Sys2Proof/Machine/Parity.lean ====
section
/-! DEFINITION. The parity equations of the address byte (30_encoding.md R83), the default of the configuration field
`Params.parity` (00_scope.md R7). The spec takes them from general knowledge (93_implementation_defined.md G2, G3;
log 13). -/

namespace Sys2Proof

/-- Parity bit P0, the exclusive or of id bits 0, 1, 2, 4 (R83; G2). -/
def parity0 (id : FrameId) : Bool := id[0] ^^ id[1] ^^ id[2] ^^ id[4]

/-- Parity bit P1, the complement of the exclusive or of id bits 1, 3, 4, 5 (R83; G2). -/
def parity1 (id : FrameId) : Bool := !(id[1] ^^ id[3] ^^ id[4] ^^ id[5])

/-- The bits `P1 P0`, P0 the lower one (R83; G3). -/
def parityBits (id : FrameId) : BitVec 2 := BitVec.ofBool (parity1 id) ++ BitVec.ofBool (parity0 id)

end Sys2Proof
end

