-- ==== Sys2Proof/Syntax.lean ====
section
/-! DEFINITION. The names of the machine: the sixteen values of `STATE` (30_encoding.md R98), the events of the wire
history (10_state.md R35), and one constructor of `Instr` for each row of spec/opcode_table.json. -/

namespace Sys2Proof

/-- The value of the register `STATE`, one name for each code of R98; `unrecognised` is code 15 (R186). -/
inductive DpState where
  | nodev | reqId | rspId | reqBt | rspBt | prep | rf2 | rf5 | rf6 | pause | prepCfg | wc1 | wc2 | wb1 | wb2
  | unrecognised
deriving DecidableEq, Repr, Inhabited

/-- An event of the wire history `WIRE` (R35). -/
inductive WireEvent where
  | setBaud (baud : BitVec 24)
  | pinTx
  | pinRx
  | brk
  | byte (b : Byte)
  | flush
deriving DecidableEq, Repr, Inhabited

/-- One constructor for each row of spec/opcode_table.json.
The first seven are the commands (R96, R97), the next nine the reserved opcodes (R240), the next sixteen the state
codes TICK dispatches on (R98, R151; log 1), the next four the battery-type codes (R99; log 2), and the last two the
symbols of a header (R82, R83; log 3). -/
inductive Instr where
  | openBus (baud : BitVec 24)
  | send (id : FrameId) (len : BitVec 4) (pver : BitVec 2)
  | recv (id : FrameId) (len : BitVec 4) (pver : BitVec 2)
  | sleep
  | tick
  | reqcfg (cap : BitVec 16) (btype : BitVec 2)
  | seths (en : BitVec 1)
  | reservedOp0
  | reservedOp8
  | reservedOp9
  | reservedOp10
  | reservedOp11
  | reservedOp12
  | reservedOp13
  | reservedOp14
  | reservedOp15
  | stNodev
  | stReqid
  | stRspid
  | stReqbt
  | stRspbt
  | stPrep
  | stRf2
  | stRf5
  | stRf6
  | stPause
  | stPrepcfg
  | stWc1
  | stWc2
  | stWb1
  | stWb2
  | stUnrecognised
  | btStandard
  | btGel
  | btAgm
  | btUndefined
  | wireSync
  | wirePid (id : FrameId)
deriving DecidableEq, Repr

end Sys2Proof
end

