-- ==== Sys2Proof/Config.lean ====
section
/-! DEFINITION. What is fixed for the machine and is not state (10_state.md R20): the parameters of 00_scope.md R7,
the catalog (R9), the layout (R10), and the answers of the environment (20_memory.md R66, 40_transport.md R118, R122).

`Params` and `Env` are plain records, so that a rule is a function of them and the spec's example instantiation
(95_test_vectors.md section 12) can be written down. The machine itself runs at `Config.env`, whose OPEN parts are
opaque constants: nothing can be proved of their values beyond R7's constraints, which are built in. -/

namespace Sys2Proof

/-- `frameIdAndLength` of one telemetry frame (R9). R9 allows 0..8 for `len`; R187 says what a larger one does. -/
structure FrameSpec where
  id : FrameId
  len : Nat
deriving DecidableEq, Repr, Inhabited

/-- A `DeviceProfile` of the catalog (R9). `frame2`, `frame5`, `frame6` are R9's `frame[0]`, `frame[1]`, `frame[2]`. -/
structure DeviceProfile where
  nodeAddress : Byte
  diagTemplate : Vector Byte 8
  /-- Read by no rule (43_decode_and_frames.md R221). -/
  supportsDoubleCapacity : Bool
  displayName : String
  frame2 : FrameSpec
  frame5 : FrameSpec
  frame6 : FrameSpec
deriving DecidableEq, Repr, Inhabited

/-- `LAYOUT` (R10). An offset's type holds the bound of R200: a one-byte field lies in `RXBUF0..7`, a two-byte field
begins at 6 or below, the three-byte field at 5 or below. -/
structure Layout where
  curOff : Fin 6
  curBigEndian : Bool
  voltOff : Fin 7
  tempOff : Fin 8
  errOff : Fin 8
  errMask : Byte
  socOff : Fin 8
  sohOff : Fin 8
  ocvOff : Fin 8
  riOff : Fin 7
  availOff : Fin 7
  disOff : Fin 7
  nomOff : Fin 8
  calOff : Fin 8
  calMask : Byte
deriving DecidableEq, Repr, Inhabited

/-- The parameters of R7. A field with a default has the value R7's table gives it; the marks G<n> name the ones the
spec takes from general knowledge (93_implementation_defined.md part 2; log 13). `ID_W` and `TIME_W`, 6 and 32, are
the widths of `FrameId` and `Word32`; `MAX_PAYLOAD`, `DIAG_LEN` and `CUR_BIAS`, which the source fixes, stand below. -/
structure Params where
  catalog : List DeviceProfile
  /-- G1, R82. -/
  sync : Byte := 0x55
  /-- The parity equations and the order of the two parity bits: bits 7:6 of an id's address byte (G2, G3, R83). -/
  parity : FrameId → BitVec 2 := parityBits
  /-- G4, R86. -/
  diagReqId : FrameId := 0x3C
  /-- G4, R86. -/
  diagRspId : FrameId := 0x3D
  /-- G5, R92. -/
  sleepPayload : Vector Byte 8 := #v[0x00, 0xFF, 0xFF, 0xFF, 0xFF, 0xFF, 0xFF, 0xFF]
  /-- G6, R90. -/
  breakBits : Nat := 13
  /-- The bits of the break delimiter in the nominal frame length, not in R7's table but in R115 (G8; log 13). -/
  breakDelimiterBits : Nat := 1
  /-- G7, R115. -/
  bitsPerByte : Nat := 10
  /-- G9, R115: `TIMEOUT_MULT` is the rational `timeoutNum / timeoutDen`. -/
  timeoutNum : Nat := 14
  /-- G9, R115. -/
  timeoutDen : Nat := 10
  pollStep : Nat
  unitsPerSecond : Nat
  tQuiet : Nat
  tMsg : Nat
  tPoll : Nat
  tPollHs : Nat
  /-- D9. -/
  tStep : Nat := 1
  tSendMax : Nat
  pverDp : BitVec 2
  tplBtRead : Vector Byte 8
  tplCapRetrieve : Vector Byte 8
  tplCapWrite : Vector Byte 8
  tplBtRetrieve : Vector Byte 8
  tplBtWrite : Vector Byte 8
  /-- G10, R91. -/
  nadOff : Fin 8 := 0
  capValOff : Fin 8
  btValOff : Fin 8
  btRspOff : Fin 8
  btWire : Vector Byte 4
  /-- The level of the pin when transmit-enabled (D27). -/
  pinTxLevel : Bool
deriving Inhabited

/-- `MAX_PAYLOAD` (R7). -/
def Config.maxPayload : Nat := 8

/-- `DIAG_LEN` (R7). -/
def Config.diagLen : Nat := 8

/-- `CUR_BIAS` (R7). -/
def Config.curBias : Nat := 2000000

/-- The constraints of R7's type column, with the bound on `N_PROFILES` that R33 derives. -/
def Params.Ok (p : Params) : Prop :=
  p.catalog ≠ [] ∧ p.catalog.length ≤ 255 ∧ p.bitsPerByte < p.breakBits ∧ 1 ≤ p.timeoutNum ∧ 1 ≤ p.timeoutDen ∧
  1 ≤ p.pollStep ∧ 1 ≤ p.tQuiet ∧ 1 ≤ p.tMsg ∧ 2 ≤ p.tPoll ∧ 1 ≤ p.tPollHs ∧ p.tPollHs < p.tPoll ∧ 1 ≤ p.tStep

/-- The parameters together with every answer of the environment, each a function of the counter `State.draws` the
answer is read at, so that no two answers of one run are tied to each other (log 6). -/
structure Env where
  params : Params
  /-- R10: `LAYOUT` may be a function of the matched profile (log 20). -/
  layout : DeviceProfile → Layout
  /-- What a read of the catalog outside its range gives; only states no run reaches read it (log 12). -/
  freeProfile : Nat → DeviceProfile
  /-- The answer of `ChSetBaud` (R16, R114, U5). -/
  baudOk : Nat → BitVec 24 → Bool
  /-- The time a send lets pass, before R118's bound is taken. -/
  sendTime : Nat → Nat
  /-- The time a receive lets pass, before R122's bound is taken. -/
  recvTime : Nat → Nat
  /-- The Bus's answer to a header: bytes in order, each with the TIME it arrives at, counted from the start of the
  receive loop; it may depend on the whole of `WIRE` (R66). -/
  busAnswer : Nat → List WireEvent → List (Nat × Byte)
  /-- `RXBUFi` beyond the received count (R22, U10). -/
  freeRx : Nat → Nat → Byte
  /-- A field decoded from a byte at or beyond the frame's length (R200, U11). -/
  freeField : Nat → Nat → BitVec 24
  /-- `getDisplayName()` while `AVAILABLE = 0` (R157, U13). -/
  freeName : Nat → String

namespace Config

/-! ### OPEN parameters of R7 (log 14): no body, so no proof can see a value -/

/-- The first profile of the catalog; R7 says there is one. -/
opaque catalogFirst : DeviceProfile
/-- The rest of the catalog, of which the first 254 entries count (R33: at most 255 profiles). -/
opaque catalogRest : List DeviceProfile
/-- `POLL_STEP - 1`. -/
opaque pollStepExcess : Nat
/-- `UNITS_PER_SECOND`. -/
opaque unitsPerSecond : Nat
/-- `T_QUIET - 1`. -/
opaque tQuietExcess : Nat
/-- `T_MSG - 1`. -/
opaque tMsgExcess : Nat
/-- `T_POLL_HS - 1`. -/
opaque tPollHsExcess : Nat
/-- `T_POLL - T_POLL_HS - 1`. -/
opaque tPollExcess : Nat
/-- `T_SEND_MAX`. -/
opaque tSendMax : Nat
/-- `PVER_DP`. -/
opaque pverDp : BitVec 2
/-- `TPL_BT_READ`. -/
opaque tplBtRead : Vector Byte 8
/-- `TPL_CAP_RETRIEVE`. -/
opaque tplCapRetrieve : Vector Byte 8
/-- `TPL_CAP_WRITE`. -/
opaque tplCapWrite : Vector Byte 8
/-- `TPL_BT_RETRIEVE`. -/
opaque tplBtRetrieve : Vector Byte 8
/-- `TPL_BT_WRITE`. -/
opaque tplBtWrite : Vector Byte 8
/-- `CAP_VAL_OFF`. -/
opaque capValOff : Fin 8
/-- `BT_VAL_OFF`. -/
opaque btValOff : Fin 8
/-- `BT_RSP_OFF`. -/
opaque btRspOff : Fin 8
/-- `BT_WIRE`. -/
opaque btWire : Vector Byte 4
/-- `PIN_TX_LEVEL`. -/
opaque pinTxLevel : Bool
/-- The OPEN fields of `LAYOUT` (R10), for each profile. -/
opaque openLayout : DeviceProfile → Layout

/-! ### Answers of the environment and unspecified values (log 6 to 12) -/

/-- R66, U15. -/
opaque busAnswer : Nat → List WireEvent → List (Nat × Byte)
/-- R114, U5. -/
opaque baudOk : Nat → BitVec 24 → Bool
/-- R118, U14. -/
opaque sendTime : Nat → Nat
/-- R122, U14. -/
opaque recvTime : Nat → Nat
/-- R22, U10. -/
opaque freeRx : Nat → Nat → Byte
/-- R200, U11. -/
opaque freeField : Nat → Nat → BitVec 24
/-- A profile outside the catalog. -/
opaque freeProfile : Nat → DeviceProfile
/-- R157, U13. -/
opaque freeName : Nat → String
/-- The content of `RXFIFO` at reset (R36, U12). -/
opaque resetRxFifo : List Byte

/-- The parameters the machine runs with. R7's constraints hold by construction (`Laws.config_params_ok`), and every
choice of the OPEN ones that meets them is of this form. -/
def params : Params where
  catalog := catalogFirst :: catalogRest.take 254
  pollStep := pollStepExcess + 1
  unitsPerSecond := unitsPerSecond
  tQuiet := tQuietExcess + 1
  tMsg := tMsgExcess + 1
  tPollHs := tPollHsExcess + 1
  tPoll := tPollHsExcess + 1 + (tPollExcess + 1)
  tSendMax := tSendMax
  pverDp := pverDp
  tplBtRead := tplBtRead
  tplCapRetrieve := tplCapRetrieve
  tplCapWrite := tplCapWrite
  tplBtRetrieve := tplBtRetrieve
  tplBtWrite := tplBtWrite
  capValOff := capValOff
  btValOff := btValOff
  btRspOff := btRspOff
  btWire := btWire
  pinTxLevel := pinTxLevel

/-- `LAYOUT` of a profile: the frame-2 offsets are R10's defaults (0, 3, 5, 6), the rest is OPEN. -/
def layout (p : DeviceProfile) : Layout :=
  { openLayout p with curOff := 0, voltOff := 3, tempOff := 5, errOff := 6 }

/-- The parameters and the environment the machine runs in. -/
def env : Env where
  params := params
  layout := layout
  freeProfile := freeProfile
  baudOk := baudOk
  sendTime := sendTime
  recvTime := recvTime
  busAnswer := busAnswer
  freeRx := freeRx
  freeField := freeField
  freeName := freeName

end Config

end Sys2Proof
end

