-- ==== Sys2Proof/WellFormed.lean ====
section
/-! DEFINITION. Which instructions the spec calls illegal (30_encoding.md R100), whatever the state. The width of
every operand field is in its type (R97), so a field cannot overflow its place in the word.

An ill-formed instruction still runs: its effect is the refusal of R240. -/

namespace Sys2Proof

/-- `len` of SEND or RECV is at most 8 (R97, R100). -/
def lenOk (len : BitVec 4) : Bool := len.toNat ≤ Config.maxPayload

/-- `baud` of OPEN is not 0 (R97, R100). -/
def baudOk (baud : BitVec 24) : Bool := baud != 0

/-- The opcode is one of the nine reserved ones (R96, R100). -/
def Instr.reservedOpcode : Instr → Bool
  | .reservedOp0 => true
  | .reservedOp8 => true
  | .reservedOp9 => true
  | .reservedOp10 => true
  | .reservedOp11 => true
  | .reservedOp12 => true
  | .reservedOp13 => true
  | .reservedOp14 => true
  | .reservedOp15 => true
  | .openBus _ => false
  | .send _ _ _ => false
  | .recv _ _ _ => false
  | .sleep => false
  | .tick => false
  | .reqcfg _ _ => false
  | .seths _ => false
  | .stNodev => false
  | .stReqid => false
  | .stRspid => false
  | .stReqbt => false
  | .stRspbt => false
  | .stPrep => false
  | .stRf2 => false
  | .stRf5 => false
  | .stRf6 => false
  | .stPause => false
  | .stPrepcfg => false
  | .stWc1 => false
  | .stWc2 => false
  | .stWb1 => false
  | .stWb2 => false
  | .stUnrecognised => false
  | .btStandard => false
  | .btGel => false
  | .btAgm => false
  | .btUndefined => false
  | .wireSync => false
  | .wirePid _ => false

/-- The operands of the instruction are legal (R100). -/
def Instr.operandsOk : Instr → Bool
  | .openBus baud => Sys2Proof.baudOk baud
  | .send _ len _ => lenOk len
  | .recv _ len _ => lenOk len
  | .sleep => true
  | .tick => true
  | .reqcfg _ _ => true
  | .seths _ => true
  | .reservedOp0 => true
  | .reservedOp8 => true
  | .reservedOp9 => true
  | .reservedOp10 => true
  | .reservedOp11 => true
  | .reservedOp12 => true
  | .reservedOp13 => true
  | .reservedOp14 => true
  | .reservedOp15 => true
  | .stNodev => true
  | .stReqid => true
  | .stRspid => true
  | .stReqbt => true
  | .stRspbt => true
  | .stPrep => true
  | .stRf2 => true
  | .stRf5 => true
  | .stRf6 => true
  | .stPause => true
  | .stPrepcfg => true
  | .stWc1 => true
  | .stWc2 => true
  | .stWb1 => true
  | .stWb2 => true
  | .stUnrecognised => true
  | .btStandard => true
  | .btGel => true
  | .btAgm => true
  | .btUndefined => true
  | .wireSync => true
  | .wirePid _ => true

/-- The encoding is not one that R100 calls illegal whatever the state. `REQCFG` with `btype = 3` or `cap > 249` is
accepted (R100, R152), and so well-formed. -/
def Instr.wellFormed (i : Instr) : Bool := !i.reservedOpcode && i.operandsOk

end Sys2Proof
end

