-- ==== Sys2Proof/Decode.lean ====
section
/-! DEFINITION. The decoder and the encoder (30_encoding.md).

A row of the opcode table has one of four formats. CMD32 is the word the host writes to `CMD` (R95); STATE4 is the
value of the register `STATE` (R98); BTYPE2 is a battery-type code in `REQCFG.btype`, `CFG` and `ACT` (R99); WIRE8 is
a byte of a header, read by its place in the frame (R80, R87). -/

namespace Sys2Proof

/-! ### The address byte (R83, R84) -/

/-- The address byte `P1 P0 i5 i4 i3 i2 i1 i0` (R83; G3). -/
def pid (p : Params) (id : FrameId) : Byte := p.parity id ++ id

/-- `pidDecode` of R84; `none` is the spec's `invalid`. -/
def pidDecode (p : Params) (b : Byte) : Option FrameId :=
  if pid p (b.extractLsb' 0 6) = b then some (b.extractLsb' 0 6) else none

/-! ### Encoded forms -/

/-- Which byte of a header a WIRE8 byte is (R80: byte 0 is the sync byte, byte 1 the address byte). -/
inductive WirePos where
  | sync
  | address
deriving DecidableEq, Repr

/-- An encoded instruction, in one of the table's four formats. -/
inductive Code where
  | cmd32 (w : Word32)
  | state4 (c : BitVec 4)
  | btype2 (c : BitVec 2)
  | wire8 (pos : WirePos) (b : Byte)
deriving DecidableEq, Repr

/-- Why a byte of a header is no symbol of the table; only WIRE8 has values that decode to nothing (R84, R89). -/
inductive Reject where
  /-- The first byte of the header is not `SYNC` (R82, R89). -/
  | notSync
  /-- The address byte's parity is wrong (R84). -/
  | badParity
deriving DecidableEq, Repr

/-! ### Decoding -/

/-- The command a 32-bit word stands for (R95 to R97). Every word stands for one: an opcode outside the table is a
reserved opcode, and bits the row does not name are ignored. -/
def decodeCmd (w : Word32) : Instr :=
  match (w.extractLsb' 0 4).toNat with
  | 0 => .reservedOp0
  | 1 => .openBus (w.extractLsb' 4 24)
  | 2 => .send (w.extractLsb' 4 6) (w.extractLsb' 10 4) (w.extractLsb' 14 2)
  | 3 => .recv (w.extractLsb' 4 6) (w.extractLsb' 10 4) (w.extractLsb' 14 2)
  | 4 => .sleep
  | 5 => .tick
  | 6 => .reqcfg (w.extractLsb' 4 16) (w.extractLsb' 20 2)
  | 7 => .seths (w.extractLsb' 4 1)
  | 8 => .reservedOp8
  | 9 => .reservedOp9
  | 10 => .reservedOp10
  | 11 => .reservedOp11
  | 12 => .reservedOp12
  | 13 => .reservedOp13
  | 14 => .reservedOp14
  | _ => .reservedOp15

/-- The name of a code of `STATE` (R98). -/
def DpState.ofCode (c : BitVec 4) : DpState :=
  match c.toNat with
  | 0 => .nodev
  | 1 => .reqId
  | 2 => .rspId
  | 3 => .reqBt
  | 4 => .rspBt
  | 5 => .prep
  | 6 => .rf2
  | 7 => .rf5
  | 8 => .rf6
  | 9 => .pause
  | 10 => .prepCfg
  | 11 => .wc1
  | 12 => .wc2
  | 13 => .wb1
  | 14 => .wb2
  | _ => .unrecognised

/-- The code of a value of `STATE` (R98). -/
def DpState.code : DpState → BitVec 4
  | .nodev => 0
  | .reqId => 1
  | .rspId => 2
  | .reqBt => 3
  | .rspBt => 4
  | .prep => 5
  | .rf2 => 6
  | .rf5 => 7
  | .rf6 => 8
  | .pause => 9
  | .prepCfg => 10
  | .wc1 => 11
  | .wc2 => 12
  | .wb1 => 13
  | .wb2 => 14
  | .unrecognised => 15

/-- The row of the table a TICK dispatches to when it finds DP in this state (R151). -/
def DpState.instr : DpState → Instr
  | .nodev => .stNodev
  | .reqId => .stReqid
  | .rspId => .stRspid
  | .reqBt => .stReqbt
  | .rspBt => .stRspbt
  | .prep => .stPrep
  | .rf2 => .stRf2
  | .rf5 => .stRf5
  | .rf6 => .stRf6
  | .pause => .stPause
  | .prepCfg => .stPrepcfg
  | .wc1 => .stWc1
  | .wc2 => .stWc2
  | .wb1 => .stWb1
  | .wb2 => .stWb2
  | .unrecognised => .stUnrecognised

/-- The state code's row (R98, R151). -/
def decodeState (c : BitVec 4) : Instr := (DpState.ofCode c).instr

/-- The battery-type code's row (R99). -/
def decodeBtype (c : BitVec 2) : Instr :=
  match c.toNat with
  | 0 => .btStandard
  | 1 => .btGel
  | 2 => .btAgm
  | _ => .btUndefined

/-- The symbol a byte of a header is, by its place (R80, R82, R84). -/
def decodeWire (pos : WirePos) (b : Byte) : Except Reject Instr :=
  match pos with
  | .sync => if b = Config.params.sync then .ok .wireSync else .error .notSync
  | .address =>
    match pidDecode Config.params b with
    | some id => .ok (.wirePid id)
    | none => .error .badParity

/-- The instruction an encoded form stands for. -/
def decode : Code → Except Reject Instr
  | .cmd32 w => .ok (decodeCmd w)
  | .state4 c => .ok (decodeState c)
  | .btype2 c => .ok (decodeBtype c)
  | .wire8 pos b => decodeWire pos b

/-- The instruction the decoder reads from a table word. What the machine fetches from a word is a command (R28, R95),
so a word is read as CMD32, its bits above `nbits` 0; a word of exactly 4 bits is a STATE4 code, which TICK fetches
from `STATE` (R151; log 4). -/
def decodeTableWord (nbits w : Nat) : Option Instr :=
  if nbits = 4 then some (decodeState (BitVec.ofNat 4 w))
  else some (decodeCmd (BitVec.ofNat 32 (w % 2 ^ nbits)))

/-! ### Encoding (R82, R83, R95 to R99): ignored bits are written as 0 -/

/-- The encoded form of an instruction. -/
def encode : Instr → Code
  | .reservedOp0 => .cmd32 0
  | .openBus baud => .cmd32 (0#4 ++ baud ++ 1#4)
  | .send id len pver => .cmd32 (0#16 ++ pver ++ len ++ id ++ 2#4)
  | .recv id len pver => .cmd32 (0#16 ++ pver ++ len ++ id ++ 3#4)
  | .sleep => .cmd32 4
  | .tick => .cmd32 5
  | .reqcfg cap btype => .cmd32 (0#10 ++ btype ++ cap ++ 6#4)
  | .seths en => .cmd32 (0#27 ++ en ++ 7#4)
  | .reservedOp8 => .cmd32 8
  | .reservedOp9 => .cmd32 9
  | .reservedOp10 => .cmd32 10
  | .reservedOp11 => .cmd32 11
  | .reservedOp12 => .cmd32 12
  | .reservedOp13 => .cmd32 13
  | .reservedOp14 => .cmd32 14
  | .reservedOp15 => .cmd32 15
  | .stNodev => .state4 0
  | .stReqid => .state4 1
  | .stRspid => .state4 2
  | .stReqbt => .state4 3
  | .stRspbt => .state4 4
  | .stPrep => .state4 5
  | .stRf2 => .state4 6
  | .stRf5 => .state4 7
  | .stRf6 => .state4 8
  | .stPause => .state4 9
  | .stPrepcfg => .state4 10
  | .stWc1 => .state4 11
  | .stWc2 => .state4 12
  | .stWb1 => .state4 13
  | .stWb2 => .state4 14
  | .stUnrecognised => .state4 15
  | .btStandard => .btype2 0
  | .btGel => .btype2 1
  | .btAgm => .btype2 2
  | .btUndefined => .btype2 3
  | .wireSync => .wire8 .sync Config.params.sync
  | .wirePid id => .wire8 .address (pid Config.params id)

end Sys2Proof
end

