-- ==== Sys2Proof/Machine/Frames.lean ====
section
/-! DEFINITION. The frame on the wire as pure functions: the checksum generator (30_encoding.md R85), encoding and
decoding of a frame (R89), the events a header and a frame are in `WIRE` (40_transport.md R117, R119), and the
diagnostic frame builders (43_decode_and_frames.md R215 to R220). -/

namespace Sys2Proof.Machine

/-! ### The checksum generator (R85, R112) -/

/-- One step of the carry-wrapped sum: add, and add the carry back in (R85). -/
def wsumStep (acc : Nat) (b : Byte) : Nat :=
  if 256 ≤ acc + b.toNat then acc + b.toNat - 255 else acc + b.toNat

/-- `wsum`, the 8-bit carry-wrapped sum (R85). -/
def wsum (bytes : List Byte) : Nat := bytes.foldl wsumStep 0

/-- `cks`, the one's complement of the sum (R85). -/
def cks (bytes : List Byte) : Byte := BitVec.ofNat 8 (255 - wsum bytes)

/-- The frame takes the classic checksum (R85, R113). -/
def classic (p : Params) (id : FrameId) (pver : BitVec 2) : Bool :=
  id = p.diagReqId || id = p.diagRspId || pver = 1#2

/-- What the checksum covers before the payload: the whole address byte, or nothing (R85, R121; D33). -/
def cover (p : Params) (id : FrameId) (pver : BitVec 2) : List Byte :=
  if classic p id pver then [] else [pid p id]

/-- `frameCks` (R85). -/
def frameCks (p : Params) (id : FrameId) (payload : List Byte) (pver : BitVec 2) : Byte :=
  cks (cover p id pver ++ payload)

/-! ### Frames (R80, R87, R89) -/

/-- `encodeFrame` (R89): the bytes of a frame after its break. -/
def encodeFrame (p : Params) (id : FrameId) (payload : List Byte) (pver : BitVec 2) : List Byte :=
  [p.sync, pid p id] ++ payload ++ [frameCks p id payload pver]

/-- `decodeFrame` (R89); `none` is the spec's `invalid`, and also the answer for a list whose length R89 does not
allow (log 22). -/
def decodeFrame (p : Params) (bytes : List Byte) (pver : BitVec 2) : Option (FrameId × List Byte) :=
  if bytes.length < 3 ∨ 11 < bytes.length then none
  else
    match bytes with
    | b0 :: b1 :: rest =>
      if b0 = p.sync then
        match pidDecode p b1 with
        | none => none
        | some id =>
          if rest.getLast? = some (frameCks p id rest.dropLast pver) then some (id, rest.dropLast) else none
      else none
    | _ => none

/-- The events a header adds to `WIRE` between the two pin events (R87, R117, R119). -/
def headerSymbols (p : Params) (id : FrameId) : List WireEvent := [.brk, .byte p.sync, .byte (pid p id)]

/-- What `BT.send` adds to `WIRE` (R117). -/
def sendEvents (p : Params) (id : FrameId) (payload : List Byte) (pver : BitVec 2) : List WireEvent :=
  [.pinTx] ++ headerSymbols p id ++ payload.map .byte ++ [.byte (frameCks p id payload pver), .pinRx]

/-- What `BT.recv` adds to `WIRE` (R119). -/
def recvEvents (p : Params) (id : FrameId) : List WireEvent := [.flush, .pinTx] ++ headerSymbols p id ++ [.pinRx]

/-! ### Timing values (R115) -/

/-- Division rounded up; the divisors of R115 are not 0. -/
def ceilDiv (a b : Nat) : Nat := (a + b - 1) / b

/-- `byteTime(baud)`, microseconds (R115). -/
def byteTimeOf (p : Params) (baud : Nat) : Nat := ceilDiv (p.bitsPerByte * 1000000) baud

/-- `NOMINAL_FRAME_BITS` (R115). The 1 of the formula, the break delimiter, is a parameter (G8; log 13). -/
def nominalFrameBits (p : Params) : Nat :=
  p.breakBits + p.breakDelimiterBits + p.bitsPerByte * (Config.maxPayload + 3)

/-- `frameTimeout(baud)`, TIME units (R115). -/
def frameTimeoutOf (p : Params) (baud : Nat) : Nat :=
  max 1 (ceilDiv (p.timeoutNum * nominalFrameBits p * p.unitsPerSecond) (p.timeoutDen * baud))

/-! ### Diagnostic frame builders (R215 to R220) -/

/-- `patch(t, k, v)` (R215): a new 8-byte value. -/
def patch (t : Vector Byte 8) (k : Fin 8) (v : Byte) : Vector Byte 8 := t.set k.val v k.isLt

/-- `idRequest(p)` (R216). -/
def idRequest (P : Params) (d : DeviceProfile) : Vector Byte 8 := patch d.diagTemplate P.nadOff d.nodeAddress

/-- `btRead(p)` (R217). -/
def btRead (P : Params) (d : DeviceProfile) : Vector Byte 8 := patch P.tplBtRead P.nadOff d.nodeAddress

/-- `capRetrieve(p)` (R218). -/
def capRetrieve (P : Params) (d : DeviceProfile) : Vector Byte 8 := patch P.tplCapRetrieve P.nadOff d.nodeAddress

/-- `btRetrieve(p)` (R218). -/
def btRetrieve (P : Params) (d : DeviceProfile) : Vector Byte 8 := patch P.tplBtRetrieve P.nadOff d.nodeAddress

/-- `capWrite(p, cap)` (R219): only the low 8 bits of the capacity reach the wire. -/
def capWrite (P : Params) (d : DeviceProfile) (cap : BitVec 16) : Vector Byte 8 :=
  patch (patch P.tplCapWrite P.nadOff d.nodeAddress) P.capValOff (cap.setWidth 8)

/-- `btWrite(p, c)` (R220): `BT_WIRE[c]` for every one of the four codes. -/
def btWrite (P : Params) (d : DeviceProfile) (c : BitVec 2) : Vector Byte 8 :=
  patch (patch P.tplBtWrite P.nadOff d.nodeAddress) P.btValOff (P.btWire[c.toNat]'c.isLt)

end Sys2Proof.Machine
end

