-- ==== Sys2Proof/Machine/State.lean ====
section
/-! DEFINITION. The state of the machine (10_state.md R20) as plain data, the reasons a step can stop, and the state
after reset (R41). -/

namespace Sys2Proof.Machine

/-- The nine flags of the register `STATUS`, bit 0 first (R27). Each field's name is the spec's, but `opened` for the
flag `OPEN`. -/
structure Status where
  opened : Bool
  txen : Bool
  available : Bool
  calibrated : Bool
  errFlag : Bool
  cfgPending : Bool
  highSpeed : Bool
  rxCkOk : Bool
  cmdErr : Bool
deriving DecidableEq, Repr

/-- The ten numeric registers of the telemetry snapshot (R23); its two flags stand in `Status`. -/
structure Snapshot where
  vRaw : BitVec 16
  iRaw : BitVec 24
  tRaw : Byte
  socRaw : Byte
  sohRaw : Byte
  ocvRaw : Byte
  riRaw : BitVec 16
  capAvailRaw : BitVec 16
  capDisRaw : BitVec 16
  capNomRaw : Byte
deriving DecidableEq, Repr

/-- One action of an agent outside the block (R11): the Host's write or read of a register (R15; a write of number 0
is a command, R28), a step of the Clock (R32), a byte from the Bus (R66). A register number is 6 bits wide (R61). -/
inductive Input where
  | write (reg : BitVec 6) (v : Word32)
  | read (reg : BitVec 6)
  | advance (d : Nat)
  | busByte (b : Byte)
deriving DecidableEq, Repr

/-- The state of the hardware (R20 to R36) and three fields of the model's own: `inputs` (log 5), `draws` (log 6),
`readData` (log 15). -/
structure State where
  /-- `TXBUF0..7` (R21). -/
  txBuf : Vector Byte 8
  /-- `RXBUF0..8` (R22). -/
  rxBuf : Vector Byte 9
  /-- Registers 40 to 49 (R23). -/
  snap : Snapshot
  /-- `STATE` (R25). -/
  state : DpState
  /-- `STATUS` (R27). -/
  status : Status
  /-- `BAUD` (R29). -/
  baud : BitVec 24
  /-- `BYTETIME` (R29). -/
  byteTime : Word32
  /-- `FTO` (R29). -/
  fto : Word32
  /-- `RXCOUNT` (R30). -/
  rxCount : BitVec 4
  /-- `T_LAST` (R31). -/
  tLast : Word32
  /-- `TIME` (R32). -/
  time : Word32
  /-- `CAND` (R33). -/
  cand : Byte
  /-- `DEVIDX` (R33). -/
  devIdx : Byte
  /-- `LASTIO` (R34). -/
  lastIo : BitVec 4
  /-- `CFG`: bits 15:0 the capacity, bits 17:16 the battery type (R34). -/
  cfg : BitVec 18
  /-- `ACT`, laid out as `CFG` (R34). -/
  act : BitVec 18
  /-- `BATTYPE` (R34). -/
  battType : Byte
  /-- `WIRE`, the oldest event first (R35). -/
  wire : List WireEvent
  /-- `RXFIFO`, the oldest byte first (R36). -/
  rxFifo : List Byte
  /-- The model's own: the actions of Host, Clock and Bus still to come (log 5). -/
  inputs : List Input
  /-- The model's own: the counter free values are read at (log 6). -/
  draws : Nat
  /-- The model's own: what the last register read returned (log 15). -/
  readData : Word32
deriving DecidableEq, Repr

/-- The hardware has no trap (60_exceptions.md R230, R235; 00_scope.md R17), and no access of its port leaves the register space (R61), so no
step stops with a fault: the type has no constructor (log 17). -/
inductive Fault where
deriving DecidableEq, Repr

/-- Why the model has no meaning for an instruction. -/
inductive Refusal where
  /-- Raised by an arm of `exec` for an instruction that has no meaning yet; safe. No arm raises it now. -/
  | notModelled (mnemonic : String)
deriving DecidableEq, Repr

/-- After reset (R41, R260). -/
def Snapshot.reset : Snapshot where
  vRaw := 0
  iRaw := 0
  tRaw := 0
  socRaw := 0
  sohRaw := 0
  ocvRaw := 0
  riRaw := 0
  capAvailRaw := 0
  capDisRaw := 0
  capNomRaw := 0

/-- After reset `STATUS = 0` (R41). -/
def Status.reset : Status where
  opened := false
  txen := false
  available := false
  calibrated := false
  errFlag := false
  cfgPending := false
  highSpeed := false
  rxCkOk := false
  cmdErr := false

/-- The machine right after reset (R41, R260): `ST_NODEV` with its entry action done, every register 0, `WIRE` empty.
The content of `RXFIFO` is unspecified and so opaque (R36; log 10). -/
def State.reset : State where
  txBuf := #v[0, 0, 0, 0, 0, 0, 0, 0]
  rxBuf := #v[0, 0, 0, 0, 0, 0, 0, 0, 0]
  snap := Snapshot.reset
  state := .nodev
  status := Status.reset
  baud := 0
  byteTime := 0
  fto := 0
  rxCount := 0
  tLast := 0
  time := 0
  cand := 0
  devIdx := 0
  lastIo := 0
  cfg := 0
  act := 0
  battType := 0
  wire := []
  rxFifo := Config.resetRxFifo
  inputs := []
  draws := 0
  readData := 0

end Sys2Proof.Machine
end

