-- ==== Sys2Proof/Machine/Operands.lean ====
section
/-! DEFINITION. What a rule reads: the profiles (`C` and `P` of 42_protocol_states.md), the elapsed time
(41_protocol_commands.md R155), the payload of a SEND, the bytes `B(i)` and the fields of a received frame
(43_decode_and_frames.md), and the two parts of a configuration request (10_state.md R34). -/

namespace Sys2Proof.Machine

/-! ### The catalog (00_scope.md R9) -/

/-- `CATALOG[i]`; an index outside the catalog, which no run reaches (R33), gives a free profile (log 12). -/
def profile (E : Env) (i : Nat) : DeviceProfile :=
  match E.params.catalog[i]? with
  | some d => d
  | none => E.freeProfile i

/-- `C`, the candidate `CATALOG[x[CAND]]`. -/
def candidate (E : Env) (s : State) : DeviceProfile := profile E s.cand.toNat

/-- `P`, the matched profile `CATALOG[x[DEVIDX]]`. -/
def matched (E : Env) (s : State) : DeviceProfile := profile E s.devIdx.toNat

/-! ### Time -/

/-- `elapsed()`, modulo 2^32 (R155). -/
def elapsed (s : State) : Nat := (s.time - s.tLast).toNat

/-- The time a send lets pass: any amount within R118's bound, drawn by the environment. -/
def sendDelay (E : Env) (s : State) : Nat := E.sendTime s.draws % (E.params.tSendMax + 1)

/-- R122's bound on the time a receive lets pass. -/
def recvBound (E : Env) (s : State) : Nat := E.params.tSendMax + s.fto.toNat + E.params.pollStep

/-- The time a receive lets pass: any amount within R122's bound, drawn by the environment (U14; log 7). -/
def recvDelay (E : Env) (s : State) : Nat := E.recvTime s.draws % (recvBound E s + 1)

/-! ### Payloads and requests -/

/-- The payload of a SEND, `TXBUF0 .. TXBUF(len-1)` (R97, R116). -/
def txPayload (s : State) (len : BitVec 4) : List Byte := s.txBuf.toList.take len.toNat

/-- A configuration request as `CFG` and `ACT` hold it: bits 17:16 the battery type, bits 15:0 the capacity (R34). -/
def cfgWord (cap : BitVec 16) (btype : BitVec 2) : BitVec 18 := btype ++ cap

/-- The capacity of a request, bits 15:0 (R34). -/
def cfgCap (c : BitVec 18) : BitVec 16 := c.extractLsb' 0 16

/-- The battery-type code of a request, bits 17:16 (R34). -/
def cfgBtype (c : BitVec 18) : BitVec 2 := c.extractLsb' 16 2

/-! ### Fields of a received frame

A field whose layout names a byte at or beyond the frame's length `len` is unspecified (R200, U11): it is a free value
of its own (log 11), told apart by `tag`. -/

/-- `B(i)`, the byte `RXBUFi`. -/
def rxAt (s : State) (i : Nat) (h : i < 9) : Byte := s.rxBuf[i]

/-- A one-byte field at `off` (R204 to R207, R209). -/
def field8 (E : Env) (s : State) (len tag : Nat) (off : Fin 8) : Byte :=
  if off.val < len then rxAt s off.val (by omega) else (E.freeField s.draws tag).setWidth 8

/-- A two-byte field whose first byte is the more significant (R64, R202). -/
def field16be (E : Env) (s : State) (len tag : Nat) (off : Fin 7) : BitVec 16 :=
  if off.val + 1 < len then rxAt s off.val (by omega) ++ rxAt s (off.val + 1) (by omega)
  else (E.freeField s.draws tag).setWidth 16

/-- A two-byte field whose first byte is the less significant (R64, R208, R209). -/
def field16le (E : Env) (s : State) (len tag : Nat) (off : Fin 7) : BitVec 16 :=
  if off.val + 1 < len then rxAt s (off.val + 1) (by omega) ++ rxAt s off.val (by omega)
  else (E.freeField s.draws tag).setWidth 16

/-- The three-byte current, in the order `curBigEndian` says (R203). -/
def field24 (E : Env) (s : State) (len tag : Nat) (off : Fin 6) (bigEndian : Bool) : BitVec 24 :=
  if off.val + 2 < len then
    if bigEndian then
      rxAt s off.val (by omega) ++ rxAt s (off.val + 1) (by omega) ++ rxAt s (off.val + 2) (by omega)
    else
      rxAt s (off.val + 2) (by omega) ++ rxAt s (off.val + 1) (by omega) ++ rxAt s off.val (by omega)
  else E.freeField s.draws tag

end Sys2Proof.Machine
end

