-- ==== Sys2Proof/Machine/Flags.lean ====
section
/-! DEFINITION. The flags of `STATUS` (10_state.md R27): the word the host reads, and the computations that set
`RXCKOK` (40_transport.md R121), `ERRFLAG` (43_decode_and_frames.md R204) and `CALIBRATED` (R209). -/

namespace Sys2Proof.Machine

/-- `STATUS` as one 9-bit register, `OPEN` in bit 0 and `CMDERR` in bit 8 (R27). -/
def Status.word (f : Status) : BitVec 9 :=
  BitVec.ofBool f.cmdErr ++ BitVec.ofBool f.rxCkOk ++ BitVec.ofBool f.highSpeed ++ BitVec.ofBool f.cfgPending ++
    BitVec.ofBool f.errFlag ++ BitVec.ofBool f.calibrated ++ BitVec.ofBool f.available ++ BitVec.ofBool f.txen ++
    BitVec.ofBool f.opened

/-- `rxCheck` (R121): all `len + 1` bytes were received and their checksum verifies. `got` is the bytes
`RXBUF0 .. RXBUF(n-1)`, which are all of `RXBUF0 .. RXBUF(len)` where `n = len + 1`. -/
def rxCheck (p : Params) (id : FrameId) (len : Nat) (pver : BitVec 2) (got : List Byte) : Bool :=
  got.length = len + 1 && wsum (cover p id pver ++ got) = 255

/-- A flag taken from a byte of the frame under a mask (R204, R209); unspecified, and so free, when the byte lies at
or beyond the frame's length (R200; log 11). -/
def flagField (E : Env) (s : State) (len tag : Nat) (off : Fin 8) (mask : Byte) : Bool :=
  if off.val < len then rxAt s off.val (by omega) &&& mask != 0 else (E.freeField s.draws tag)[0]

end Sys2Proof.Machine
end

