-- ==== Sys2Proof/Machine/Ops.lean ====
section
/-! DEFINITION. The shared operations: the refusal of a command (60_exceptions.md R240), the channel primitives
(00_scope.md R16), `BT.send` and `BT.recv` (40_transport.md R117, R119), the guarded calls of DP
(42_protocol_states.md R187), `goto` with the entry actions (41_protocol_commands.md R153), the failure transition
(60_exceptions.md R235), and the host's register port (10_state.md R37). -/

namespace Sys2Proof.Machine

/-! ### Refusal -/

/-- `refuse`: no effect but `CMDERR <- 1` (R17, R240). -/
def refuse (s : State) : State := { s with status := { s.status with cmdErr := true } }

/-! ### Channel primitives (R16) -/

/-- `Pin(TX)`. -/
def pinTx (s : State) : State :=
  { s with status := { s.status with txen := true }, wire := s.wire ++ [.pinTx] }

/-- `Pin(RX)`. -/
def pinRx (s : State) : State :=
  { s with status := { s.status with txen := false }, wire := s.wire ++ [.pinRx] }

/-- `ChBreak()`. -/
def chBreak (s : State) : State := { s with wire := s.wire ++ [.brk] }

/-- `ChWrite(b)`. -/
def chWrite (b : Byte) (s : State) : State := { s with wire := s.wire ++ [.byte b] }

/-- `ChFlush()`. -/
def chFlush (s : State) : State := { s with wire := s.wire ++ [.flush], rxFifo := [] }

/-- `ChSetBaud(b)`: the event, and the environment's answer (R16, R114, U5). -/
def chSetBaud (E : Env) (b : BitVec 24) (s : State) : Bool × State :=
  (E.baudOk s.draws b, { s with wire := s.wire ++ [.setBaud b], draws := s.draws + 1 })

/-- `Wait` for an amount the environment draws: `TIME` moves on modulo 2^32 (R32), and the next draw is another one. -/
def waitDrawn (d : Nat) (s : State) : State :=
  { s with time := s.time + BitVec.ofNat 32 d, draws := s.draws + 1 }

/-! ### The transmit sequence -/

/-- The break, the sync byte and the address byte (R87). -/
def sendHeader (E : Env) (id : FrameId) (s : State) : State :=
  chWrite (pid E.params id) (chWrite E.params.sync (chBreak s))

/-- `ChWrite` for each byte of a list. -/
def chWriteAll (bytes : List Byte) (s : State) : State := bytes.foldl (fun t b => chWrite b t) s

/-- `BT.send(id, payload, pver)` (R117, R118). -/
def btSend (E : Env) (id : FrameId) (payload : List Byte) (pver : BitVec 2) (s : State) : State :=
  pinRx (waitDrawn (sendDelay E s)
    (chWrite (frameCks E.params id payload pver) (chWriteAll payload (sendHeader E id (pinTx s)))))

/-! ### The receive sequence -/

/-- The inner loop of R119: while a byte is available and fewer than `len + 1` are in, read one. `room` is how many
are still wanted; the answer is the bytes in, and what is left in the FIFO. -/
def drain : Nat → List Byte → List Byte → List Byte × List Byte
  | 0, fifo, got => (got, fifo)
  | _ + 1, [], got => (got, [])
  | room + 1, b :: fifo, got => drain room fifo (got ++ [b])

/-- The bytes of the Bus's answer that have arrived after `waited` units; bytes arrive in the order of the list. -/
def arrived (waited : Nat) (coming : List (Nat × Byte)) : List Byte :=
  (coming.takeWhile (fun a => decide (a.1 ≤ waited))).map Prod.snd

/-- The bytes of the Bus's answer that have not arrived after `waited` units. -/
def notArrived (waited : Nat) (coming : List (Nat × Byte)) : List (Nat × Byte) :=
  coming.dropWhile (fun a => decide (a.1 ≤ waited))

/-- The outer loop of R119, with `want = len + 1`. The available bytes are taken before the timeout is tested
(60_exceptions.md R238). The first argument bounds the recursion; `fto + 2` is enough, because `waited` grows by
`pollStep ≥ 1` (`Laws.pollLoop_fuel`). The answer is the bytes in, and what is left in the FIFO. -/
def pollLoop (fto pollStep want : Nat) :
    Nat → Nat → List Byte → List (Nat × Byte) → List Byte → List Byte × List Byte
  | 0, _, fifo, _, got => (got, fifo)
  | fuel + 1, waited, fifo, coming, got =>
    let r := drain (want - got.length) (fifo ++ arrived waited coming) got
    if r.1.length = want then r
    else if fto < waited then r
    else pollLoop fto pollStep want fuel (waited + pollStep) r.2 (notArrived waited coming) r.1

/-- `RXBUF` after a receive: the bytes in, then free values (R22, U10; log 9). -/
def rxFilled (E : Env) (draw : Nat) (got : List Byte) : Vector Byte 9 :=
  let b := fun i => (got[i]?).getD (E.freeRx draw i)
  #v[b 0, b 1, b 2, b 3, b 4, b 5, b 6, b 7, b 8]

/-- The state when the header of a receive is out: flushed, the pin receive-enabled (R119). -/
def recvHeader (E : Env) (id : FrameId) (s : State) : State := pinRx (sendHeader E id (pinTx (chFlush s)))

/-- What the receive loop gives for this header: the bytes in, and what is left in `RXFIFO` (R119). -/
def recvPoll (E : Env) (id : FrameId) (len : Nat) (s : State) : List Byte × List Byte :=
  let h := recvHeader E id s
  pollLoop s.fto.toNat E.params.pollStep (len + 1) (s.fto.toNat + 2) 0 h.rxFifo (E.busAnswer h.draws h.wire) []

/-- `BT.recv(id, len, pver)` (R119, R121, R122); its result is `RXCOUNT`. -/
def btRecv (E : Env) (id : FrameId) (len : Nat) (pver : BitVec 2) (s : State) : State :=
  let r := recvPoll E id len s
  let h := recvHeader E id s
  waitDrawn (recvDelay E s)
    { h with
      rxBuf := rxFilled E s.draws r.1
      rxFifo := r.2
      rxCount := BitVec.ofNat 4 r.1.length
      status := { h.status with rxCkOk := rxCheck E.params id len pver r.1 } }

/-! ### DP's own calls, guarded (R187) -/

/-- The send of the six sending entry actions: skipped, with no event, while `OPEN = 0`. -/
def dpSend (E : Env) (payload : Vector Byte 8) (s : State) : State :=
  if s.status.opened then btSend E E.params.diagReqId payload.toList E.params.pverDp s else s

/-- `x[LASTIO] <- recvOrZero(id, len)` (R187), the entry action of the five receiving states. -/
def dpRecv (E : Env) (id : FrameId) (len : Nat) (s : State) : State :=
  if s.status.opened && len ≤ Config.maxPayload then
    let t := btRecv E id len E.params.pverDp s
    { t with lastIo := t.rxCount }
  else { s with lastIo := 0 }

/-- The entry action of `ST_WB2` for the battery-type code `c` (R185, R220). -/
def sendBatteryType (E : Env) (c : BitVec 2) (s : State) : State := dpSend E (btWrite E.params (matched E s) c) s

/-! ### `goto` (R153) -/

/-- The entry action of each state (42_protocol_states.md R171 to R185). No `goto` names code 15 (R186). -/
def entry (E : Env) (target : DpState) (s : State) : State :=
  match target with
  | .nodev => { s with cand := 0, devIdx := 0, status := { s.status with available := false } }
  | .reqId => dpSend E (idRequest E.params (candidate E s)) s
  | .rspId => dpRecv E E.params.diagRspId Config.diagLen s
  | .reqBt => dpSend E (btRead E.params (matched E s)) s
  | .rspBt => dpRecv E E.params.diagRspId Config.diagLen s
  | .prep => s
  | .rf2 => dpRecv E (matched E s).frame2.id (matched E s).frame2.len s
  | .rf5 => dpRecv E (matched E s).frame5.id (matched E s).frame5.len s
  | .rf6 => dpRecv E (matched E s).frame6.id (matched E s).frame6.len s
  | .pause => s
  | .prepCfg => { s with act := s.cfg, status := { s.status with cfgPending := false } }
  | .wc1 => dpSend E (capRetrieve E.params (matched E s)) s
  | .wc2 => dpSend E (capWrite E.params (matched E s) (cfgCap s.act)) s
  | .wb1 => dpSend E (btRetrieve E.params (matched E s)) s
  | .wb2 => sendBatteryType E (cfgBtype s.act) s
  | .unrecognised => s

/-- `goto(S)`: `STATE` and `T_LAST` are written before the entry action runs (R153). -/
def goto (E : Env) (target : DpState) (s : State) : State :=
  entry E target { s with state := target, tLast := s.time }

/-- The failure transition, the nearest thing to a trap entry (R235): it saves nothing and always goes to
`ST_NODEV`. There is no return from it (R237). -/
def deviceLost (E : Env) (s : State) : State := goto E .nodev s

/-! ### The host's register port (R37, R61) -/

/-- `MemRead(r, 1)`: the whole register, its upper bits 0; a reserved number and `CMD` read 0. -/
def readReg (r : BitVec 6) (s : State) : Word32 :=
  match r.toNat with
  | 1 => s.status.word.setWidth 32
  | 2 => s.time
  | 3 => s.baud.setWidth 32
  | 4 => s.byteTime
  | 5 => s.fto
  | 6 => s.rxCount.setWidth 32
  | 8 => s.txBuf[0].setWidth 32
  | 9 => s.txBuf[1].setWidth 32
  | 10 => s.txBuf[2].setWidth 32
  | 11 => s.txBuf[3].setWidth 32
  | 12 => s.txBuf[4].setWidth 32
  | 13 => s.txBuf[5].setWidth 32
  | 14 => s.txBuf[6].setWidth 32
  | 15 => s.txBuf[7].setWidth 32
  | 16 => s.rxBuf[0].setWidth 32
  | 17 => s.rxBuf[1].setWidth 32
  | 18 => s.rxBuf[2].setWidth 32
  | 19 => s.rxBuf[3].setWidth 32
  | 20 => s.rxBuf[4].setWidth 32
  | 21 => s.rxBuf[5].setWidth 32
  | 22 => s.rxBuf[6].setWidth 32
  | 23 => s.rxBuf[7].setWidth 32
  | 24 => s.rxBuf[8].setWidth 32
  | 32 => s.state.code.setWidth 32
  | 33 => s.tLast
  | 34 => s.cand.setWidth 32
  | 35 => s.devIdx.setWidth 32
  | 36 => s.lastIo.setWidth 32
  | 37 => s.cfg.setWidth 32
  | 38 => s.act.setWidth 32
  | 39 => s.battType.setWidth 32
  | 40 => s.snap.vRaw.setWidth 32
  | 41 => s.snap.iRaw.setWidth 32
  | 42 => s.snap.tRaw.setWidth 32
  | 43 => s.snap.socRaw.setWidth 32
  | 44 => s.snap.sohRaw.setWidth 32
  | 45 => s.snap.ocvRaw.setWidth 32
  | 46 => s.snap.riRaw.setWidth 32
  | 47 => s.snap.capAvailRaw.setWidth 32
  | 48 => s.snap.capDisRaw.setWidth 32
  | 49 => s.snap.capNomRaw.setWidth 32
  | _ => 0

/-- `MemWrite(r, 1, v)` for every number but that of `CMD`: `TXBUFn` takes `v` truncated; a write to a read-only or
reserved number is ignored. -/
def writeReg (r : BitVec 6) (v : Word32) (s : State) : State :=
  if h : 8 ≤ r.toNat ∧ r.toNat < 16 then
    { s with txBuf := s.txBuf.set (r.toNat - 8) (v.setWidth 8) (by omega) }
  else s

/-- A register read by the host: nothing changes but the answer it gets (R62). -/
def hostRead (r : BitVec 6) (s : State) : State := { s with readData := readReg r s }

/-! ### The other agents (R32, R66) -/

/-- The Clock adds `d` to `TIME`, modulo 2^32 (R32). -/
def clockAdvance (d : Nat) (s : State) : State := { s with time := s.time + BitVec.ofNat 32 d }

/-- The Bus appends a byte to `RXFIFO` (R36, R66). -/
def busAppend (b : Byte) (s : State) : State := { s with rxFifo := s.rxFifo ++ [b] }

end Sys2Proof.Machine
end

