-- ==== Sys2Proof/Machine/Telemetry.lean ====
section
/-! DEFINITION. The telemetry decode (43_decode_and_frames.md R200 to R209, R213), the physical values of the snapshot
(R210, R211), and the accessors of 30_encoding.md R103. A decode reads `RXBUF` and checks neither the count nor the
checksum (R200). -/

namespace Sys2Proof.Machine

/-- `decode2()` (R201 to R205). -/
def decode2 (E : Env) (s : State) : State :=
  let P := matched E s
  let L := E.layout P
  { s with
    snap := { s.snap with
      vRaw := field16be E s P.frame2.len 0 L.voltOff
      iRaw := field24 E s P.frame2.len 1 L.curOff L.curBigEndian
      tRaw := field8 E s P.frame2.len 2 L.tempOff }
    status := { s.status with errFlag := flagField E s P.frame2.len 3 L.errOff L.errMask }
    draws := s.draws + 1 }

/-- `decode5()` (R206 to R208). -/
def decode5 (E : Env) (s : State) : State :=
  let P := matched E s
  let L := E.layout P
  { s with
    snap := { s.snap with
      socRaw := field8 E s P.frame5.len 0 L.socOff
      sohRaw := field8 E s P.frame5.len 1 L.sohOff
      ocvRaw := field8 E s P.frame5.len 2 L.ocvOff
      riRaw := field16le E s P.frame5.len 3 L.riOff }
    draws := s.draws + 1 }

/-- `decode6()` (R209); no doubling for any profile (R221). -/
def decode6 (E : Env) (s : State) : State :=
  let P := matched E s
  let L := E.layout P
  { s with
    snap := { s.snap with
      capAvailRaw := field16le E s P.frame6.len 0 L.availOff
      capDisRaw := field16le E s P.frame6.len 1 L.disOff
      capNomRaw := field8 E s P.frame6.len 2 L.nomOff }
    status := { s.status with calibrated := flagField E s P.frame6.len 3 L.calOff L.calMask }
    draws := s.draws + 1 }

/-- `decodeBatteryType()` (R213): the raw byte at `BT_RSP_OFF`, which is below `DIAG_LEN`. -/
def decodeBatteryType (E : Env) (s : State) : State :=
  { s with battType := rxAt s E.params.btRspOff.val (by omega) }

/-! ### Physical values (R210): exact rationals, functions of the raw register alone -/

/-- batteryVoltage, V. -/
def Snapshot.batteryVoltage (s : Snapshot) : Rat := (s.vRaw.toNat : Rat) / 1000

/-- The signed current in milliamperes (R203, R211). -/
def Snapshot.currentMilliAmp (s : Snapshot) : Int := (s.iRaw.toNat : Int) - (Config.curBias : Int)

/-- batteryCurrent, A. -/
def Snapshot.batteryCurrent (s : Snapshot) : Rat := (s.currentMilliAmp : Rat) / 1000

/-- temperature, °C. -/
def Snapshot.temperature (s : Snapshot) : Rat := (s.tRaw.toNat : Rat) / 2 - 40

/-- stateOfCharge, %. -/
def Snapshot.stateOfCharge (s : Snapshot) : Rat := (s.socRaw.toNat : Rat) / 2

/-- stateOfHealth, %. -/
def Snapshot.stateOfHealth (s : Snapshot) : Rat := (s.sohRaw.toNat : Rat) / 2

/-- optimumChargeVoltage, V (R207). -/
def Snapshot.optimumChargeVoltage (s : Snapshot) : Rat := 13 + ((s.ocvRaw.toNat : Rat) - 160) / 20

/-- The optimum charge voltage in millivolts (R211). -/
def Snapshot.ocvMilliVolt (s : Snapshot) : Nat := 5000 + 50 * s.ocvRaw.toNat

/-- averageInternalResistance, mΩ (R208). -/
def Snapshot.internalResistance (s : Snapshot) : Rat := (s.riRaw.toNat : Rat) / 100

/-- availableCapacity, Ah (R209). -/
def Snapshot.availableCapacity (s : Snapshot) : Rat := (s.capAvailRaw.toNat : Rat) / 10

/-- dischargeableCapacity, Ah (R209). -/
def Snapshot.dischargeableCapacity (s : Snapshot) : Rat := (s.capDisRaw.toNat : Rat) / 10

/-- nominalCapacity, Ah (R209). -/
def Snapshot.nominalCapacity (s : Snapshot) : Nat := s.capNomRaw.toNat

/-! ### Accessors (R103, R156, R157) -/

/-- `isAvailable()`. -/
def isAvailable (s : State) : Bool := (readReg 1 s)[2]

/-- `isCalibrated()`. -/
def isCalibrated (s : State) : Bool := (readReg 1 s)[3]

/-- `isError()`. -/
def isError (s : State) : Bool := (readReg 1 s)[4]

/-- `snapshot()`: the ten registers and the two flags, by value (R23, R103). -/
def snapshot (s : State) : Snapshot × Bool × Bool := (s.snap, isCalibrated s, isError s)

/-- `getDisplayName()`: unspecified, and so free, while `AVAILABLE = 0` (R157; log 12). -/
def displayName (E : Env) (s : State) : String :=
  if s.status.available then (matched E s).displayName else E.freeName s.draws

/-- The electrical level of the transmit-enable pin (D27): no rule reads it. -/
def pinLevel (E : Env) (s : State) : Bool := if s.status.txen then E.params.pinTxLevel else !E.params.pinTxLevel

end Sys2Proof.Machine
end

