-- ==== Sys2Proof/Machine/Protocol.lean ====
section
/-! DEFINITION. The Device Protocol: the rule of each state (42_protocol_states.md R171 to R186) and the commands TICK,
REQCFG, SETHS (41_protocol_commands.md R151, R152, R154). Every gate is `elapsed() >= T` (R155), tested before
`LASTIO` (60_exceptions.md R238). -/

namespace Sys2Proof.Machine

/-! ### The rule of each state -/

/-- `ST_NODEV` (R171). -/
def tickNodev (E : Env) (s : State) : State :=
  if E.params.tQuiet ≤ elapsed s ∧ s.status.opened = true then goto E .reqId s else s

/-- `ST_REQID` (R172). -/
def tickReqid (E : Env) (s : State) : State := if E.params.tMsg ≤ elapsed s then goto E .rspId s else s

/-- `ST_RSPID` (R173): a nonzero count is a match; zero tries the next candidate or, after the last, gives up. -/
def tickRspid (E : Env) (s : State) : State :=
  if E.params.tStep ≤ elapsed s then
    if s.lastIo = 0 then
      if E.params.catalog.length ≤ s.cand.toNat + 1 then goto E .nodev s
      else goto E .reqId { s with cand := s.cand + 1 }
    else goto E .reqBt { s with devIdx := s.cand, status := { s.status with available := true } }
  else s

/-- `ST_REQBT` (R174). -/
def tickReqbt (E : Env) (s : State) : State := if E.params.tMsg ≤ elapsed s then goto E .rspBt s else s

/-- `ST_RSPBT` (R175). -/
def tickRspbt (E : Env) (s : State) : State :=
  if E.params.tStep ≤ elapsed s then
    if s.lastIo = 0 then deviceLost E s else goto E .prep (decodeBatteryType E s)
  else s

/-- `ST_PREP` (R176). -/
def tickPrep (E : Env) (s : State) : State := if E.params.tStep ≤ elapsed s then goto E .rf2 s else s

/-- `ST_RF2` (R177). -/
def tickRf2 (E : Env) (s : State) : State :=
  if E.params.tStep ≤ elapsed s then
    if s.lastIo = 0 then deviceLost E s else goto E .rf5 (decode2 E s)
  else s

/-- `ST_RF5` (R178). -/
def tickRf5 (E : Env) (s : State) : State :=
  if E.params.tStep ≤ elapsed s then
    if s.lastIo = 0 then deviceLost E s else goto E .rf6 (decode5 E s)
  else s

/-- `ST_RF6` (R179). -/
def tickRf6 (E : Env) (s : State) : State :=
  if E.params.tStep ≤ elapsed s then
    if s.lastIo = 0 then deviceLost E s else goto E .pause (decode6 E s)
  else s

/-- `ST_PAUSE` (R180): the pending test comes first. -/
def tickPause (E : Env) (s : State) : State :=
  if s.status.cfgPending then
    if E.params.tStep ≤ elapsed s then goto E .prepCfg s else s
  else
    if (if s.status.highSpeed then E.params.tPollHs else E.params.tPoll) ≤ elapsed s then goto E .prep s else s

/-- `ST_PREPCFG` (R181). -/
def tickPrepcfg (E : Env) (s : State) : State := if E.params.tStep ≤ elapsed s then goto E .wc1 s else s

/-- `ST_WC1` (R182). -/
def tickWc1 (E : Env) (s : State) : State := if E.params.tMsg ≤ elapsed s then goto E .wc2 s else s

/-- `ST_WC2` (R183). -/
def tickWc2 (E : Env) (s : State) : State := if E.params.tMsg ≤ elapsed s then goto E .wb1 s else s

/-- `ST_WB1` (R184). -/
def tickWb1 (E : Env) (s : State) : State := if E.params.tMsg ≤ elapsed s then goto E .wb2 s else s

/-- `ST_WB2` (R185). -/
def tickWb2 (E : Env) (s : State) : State := if E.params.tMsg ≤ elapsed s then goto E .reqBt s else s

/-- Code 15 (R186): not gated by time. -/
def tickUnrecognised (E : Env) (s : State) : State := goto E .nodev s

/-! ### The commands -/

/-- TICK: the rule of the state DP is in (R151). -/
def tickCmd (E : Env) (s : State) : State :=
  match s.state with
  | .nodev => tickNodev E s
  | .reqId => tickReqid E s
  | .rspId => tickRspid E s
  | .reqBt => tickReqbt E s
  | .rspBt => tickRspbt E s
  | .prep => tickPrep E s
  | .rf2 => tickRf2 E s
  | .rf5 => tickRf5 E s
  | .rf6 => tickRf6 E s
  | .pause => tickPause E s
  | .prepCfg => tickPrepcfg E s
  | .wc1 => tickWc1 E s
  | .wc2 => tickWc2 E s
  | .wb1 => tickWb1 E s
  | .wb2 => tickWb2 E s
  | .unrecognised => tickUnrecognised E s

/-- REQCFG (R152): the last request wins. -/
def reqcfgCmd (cap : BitVec 16) (btype : BitVec 2) (s : State) : State :=
  { s with cfg := cfgWord cap btype, status := { s.status with cfgPending := true } }

/-- SETHS (R154). -/
def sethsCmd (en : BitVec 1) (s : State) : State := { s with status := { s.status with highSpeed := en = 1#1 } }

/-- The meaning of TICK. -/
def execTick (s : State) : Host.Outcome State Fault Refusal := .next (tickCmd Config.env s)

/-- The meaning of REQCFG. -/
def execReqcfg (cap : BitVec 16) (btype : BitVec 2) (s : State) : Host.Outcome State Fault Refusal :=
  .next (reqcfgCmd cap btype s)

/-- The meaning of SETHS. -/
def execSeths (en : BitVec 1) (s : State) : Host.Outcome State Fault Refusal := .next (sethsCmd en s)

end Sys2Proof.Machine
end

