-- ==== Sys2Proof/Machine/Codes.lean ====
section
/-! DEFINITION. The meanings of the rows of the opcode table that are not commands: the sixteen state codes (R98;
log 1), the four battery-type codes (R99; log 2), the two wire symbols (R82, R83; log 3). They are the pieces the
commands are made of. -/

namespace Sys2Proof.Machine

/-! ### State codes: what a TICK does that finds DP in the state (R151) -/

/-- The meaning of the state code ST_NODEV (R171). -/
def execStNodev (s : State) : Host.Outcome State Fault Refusal := .next (tickNodev Config.env s)

/-- The meaning of the state code ST_REQID (R172). -/
def execStReqid (s : State) : Host.Outcome State Fault Refusal := .next (tickReqid Config.env s)

/-- The meaning of the state code ST_RSPID (R173). -/
def execStRspid (s : State) : Host.Outcome State Fault Refusal := .next (tickRspid Config.env s)

/-- The meaning of the state code ST_REQBT (R174). -/
def execStReqbt (s : State) : Host.Outcome State Fault Refusal := .next (tickReqbt Config.env s)

/-- The meaning of the state code ST_RSPBT (R175). -/
def execStRspbt (s : State) : Host.Outcome State Fault Refusal := .next (tickRspbt Config.env s)

/-- The meaning of the state code ST_PREP (R176). -/
def execStPrep (s : State) : Host.Outcome State Fault Refusal := .next (tickPrep Config.env s)

/-- The meaning of the state code ST_RF2 (R177). -/
def execStRf2 (s : State) : Host.Outcome State Fault Refusal := .next (tickRf2 Config.env s)

/-- The meaning of the state code ST_RF5 (R178). -/
def execStRf5 (s : State) : Host.Outcome State Fault Refusal := .next (tickRf5 Config.env s)

/-- The meaning of the state code ST_RF6 (R179). -/
def execStRf6 (s : State) : Host.Outcome State Fault Refusal := .next (tickRf6 Config.env s)

/-- The meaning of the state code ST_PAUSE (R180). -/
def execStPause (s : State) : Host.Outcome State Fault Refusal := .next (tickPause Config.env s)

/-- The meaning of the state code ST_PREPCFG (R181). -/
def execStPrepcfg (s : State) : Host.Outcome State Fault Refusal := .next (tickPrepcfg Config.env s)

/-- The meaning of the state code ST_WC1 (R182). -/
def execStWc1 (s : State) : Host.Outcome State Fault Refusal := .next (tickWc1 Config.env s)

/-- The meaning of the state code ST_WC2 (R183). -/
def execStWc2 (s : State) : Host.Outcome State Fault Refusal := .next (tickWc2 Config.env s)

/-- The meaning of the state code ST_WB1 (R184). -/
def execStWb1 (s : State) : Host.Outcome State Fault Refusal := .next (tickWb1 Config.env s)

/-- The meaning of the state code ST_WB2 (R185). -/
def execStWb2 (s : State) : Host.Outcome State Fault Refusal := .next (tickWb2 Config.env s)

/-- The meaning of the state code ST_UNRECOGNISED (R186). -/
def execStUnrecognised (s : State) : Host.Outcome State Fault Refusal := .next (tickUnrecognised Config.env s)

/-! ### Battery-type codes: the frame the entry of `ST_WB2` sends for the code (R185, R220) -/

/-- The meaning of the battery-type code BT_STANDARD. -/
def execBtStandard (s : State) : Host.Outcome State Fault Refusal := .next (sendBatteryType Config.env 0#2 s)

/-- The meaning of the battery-type code BT_GEL. -/
def execBtGel (s : State) : Host.Outcome State Fault Refusal := .next (sendBatteryType Config.env 1#2 s)

/-- The meaning of the battery-type code BT_AGM. -/
def execBtAgm (s : State) : Host.Outcome State Fault Refusal := .next (sendBatteryType Config.env 2#2 s)

/-- The meaning of the battery-type code BT_UNDEFINED. -/
def execBtUndefined (s : State) : Host.Outcome State Fault Refusal := .next (sendBatteryType Config.env 3#2 s)

/-! ### Wire symbols: one `ChWrite` (R16) -/

/-- The meaning of the sync byte (R82). -/
def execWireSync (s : State) : Host.Outcome State Fault Refusal := .next (chWrite Config.env.params.sync s)

/-- The meaning of the address byte of a frame id (R83). -/
def execWirePid (id : FrameId) (s : State) : Host.Outcome State Fault Refusal :=
  .next (chWrite (pid Config.env.params id) s)

end Sys2Proof.Machine
end

