-- ==== Sys2Proof/Machine/Reserved.lean ====
section
/-! DEFINITION. The meanings of the nine reserved opcodes: refused, `CMDERR <- 1` (60_exceptions.md R240). -/

namespace Sys2Proof.Machine

/-- The meaning of opcode 0. -/
def execReservedOp0 (s : State) : Host.Outcome State Fault Refusal := .next (refuse s)

/-- The meaning of opcode 8. -/
def execReservedOp8 (s : State) : Host.Outcome State Fault Refusal := .next (refuse s)

/-- The meaning of opcode 9. -/
def execReservedOp9 (s : State) : Host.Outcome State Fault Refusal := .next (refuse s)

/-- The meaning of opcode 10. -/
def execReservedOp10 (s : State) : Host.Outcome State Fault Refusal := .next (refuse s)

/-- The meaning of opcode 11. -/
def execReservedOp11 (s : State) : Host.Outcome State Fault Refusal := .next (refuse s)

/-- The meaning of opcode 12. -/
def execReservedOp12 (s : State) : Host.Outcome State Fault Refusal := .next (refuse s)

/-- The meaning of opcode 13. -/
def execReservedOp13 (s : State) : Host.Outcome State Fault Refusal := .next (refuse s)

/-- The meaning of opcode 14. -/
def execReservedOp14 (s : State) : Host.Outcome State Fault Refusal := .next (refuse s)

/-- The meaning of opcode 15. -/
def execReservedOp15 (s : State) : Host.Outcome State Fault Refusal := .next (refuse s)

end Sys2Proof.Machine
end

