-- ==== Sys2Proof/Machine/Transport.lean ====
section
/-! DEFINITION. The Bus Transport commands OPEN, SEND, RECV, SLEEP (40_transport.md R114, R116, R120, R124). Each rule
is a function of the environment; the meaning of the instruction is that function at `Config.env`. -/

namespace Sys2Proof.Machine

/-- OPEN (R114, R115): `baud = 0` is refused and closes the transport; a configuration the channel does not take
closes it too, without a refusal. -/
def openCmd (E : Env) (baud : BitVec 24) (s : State) : State :=
  if baud = 0 then refuse { s with status := { s.status with opened := false } }
  else
    let r := chSetBaud E baud s
    if r.1 then
      let t := pinRx
        { r.2 with
          baud := baud
          byteTime := BitVec.ofNat 32 (byteTimeOf E.params baud.toNat)
          fto := BitVec.ofNat 32 (frameTimeoutOf E.params baud.toNat) }
      { t with status := { t.status with opened := true } }
    else { r.2 with status := { r.2.status with opened := false } }

/-- SEND (R116). -/
def sendCmd (E : Env) (id : FrameId) (len : BitVec 4) (pver : BitVec 2) (s : State) : State :=
  if s.status.opened && lenOk len then btSend E id (txPayload s len) pver s else refuse s

/-- RECV (R120). -/
def recvCmd (E : Env) (id : FrameId) (len : BitVec 4) (pver : BitVec 2) (s : State) : State :=
  if s.status.opened && lenOk len then btRecv E id len.toNat pver s else refuse s

/-- SLEEP (R124). -/
def sleepCmd (E : Env) (s : State) : State :=
  if s.status.opened then btSend E E.params.diagReqId E.params.sleepPayload.toList 1#2 s else refuse s

/-- The meaning of OPEN. -/
def execOpenBus (baud : BitVec 24) (s : State) : Host.Outcome State Fault Refusal := .next (openCmd Config.env baud s)

/-- The meaning of SEND. -/
def execSend (id : FrameId) (len : BitVec 4) (pver : BitVec 2) (s : State) : Host.Outcome State Fault Refusal :=
  .next (sendCmd Config.env id len pver s)

/-- The meaning of RECV. -/
def execRecv (id : FrameId) (len : BitVec 4) (pver : BitVec 2) (s : State) : Host.Outcome State Fault Refusal :=
  .next (recvCmd Config.env id len pver s)

/-- The meaning of SLEEP. -/
def execSleep (s : State) : Host.Outcome State Fault Refusal := .next (sleepCmd Config.env s)

end Sys2Proof.Machine
end

