-- ==== Sys2Proof/Machine/Dispatch.lean ====
section
/-! DEFINITION. One arm for each constructor of `Instr`, each a direct call of its meaning. -/

namespace Sys2Proof.Machine

def exec (i : Instr) (s : State) : Host.Outcome State Fault Refusal :=
  match i with
  | .openBus baud => Sys2Proof.Machine.execOpenBus baud s
  | .send id len pver => Sys2Proof.Machine.execSend id len pver s
  | .recv id len pver => Sys2Proof.Machine.execRecv id len pver s
  | .sleep => Sys2Proof.Machine.execSleep s
  | .tick => Sys2Proof.Machine.execTick s
  | .reqcfg cap btype => Sys2Proof.Machine.execReqcfg cap btype s
  | .seths en => Sys2Proof.Machine.execSeths en s
  | .reservedOp0 => Sys2Proof.Machine.execReservedOp0 s
  | .reservedOp8 => Sys2Proof.Machine.execReservedOp8 s
  | .reservedOp9 => Sys2Proof.Machine.execReservedOp9 s
  | .reservedOp10 => Sys2Proof.Machine.execReservedOp10 s
  | .reservedOp11 => Sys2Proof.Machine.execReservedOp11 s
  | .reservedOp12 => Sys2Proof.Machine.execReservedOp12 s
  | .reservedOp13 => Sys2Proof.Machine.execReservedOp13 s
  | .reservedOp14 => Sys2Proof.Machine.execReservedOp14 s
  | .reservedOp15 => Sys2Proof.Machine.execReservedOp15 s
  | .stNodev => Sys2Proof.Machine.execStNodev s
  | .stReqid => Sys2Proof.Machine.execStReqid s
  | .stRspid => Sys2Proof.Machine.execStRspid s
  | .stReqbt => Sys2Proof.Machine.execStReqbt s
  | .stRspbt => Sys2Proof.Machine.execStRspbt s
  | .stPrep => Sys2Proof.Machine.execStPrep s
  | .stRf2 => Sys2Proof.Machine.execStRf2 s
  | .stRf5 => Sys2Proof.Machine.execStRf5 s
  | .stRf6 => Sys2Proof.Machine.execStRf6 s
  | .stPause => Sys2Proof.Machine.execStPause s
  | .stPrepcfg => Sys2Proof.Machine.execStPrepcfg s
  | .stWc1 => Sys2Proof.Machine.execStWc1 s
  | .stWc2 => Sys2Proof.Machine.execStWc2 s
  | .stWb1 => Sys2Proof.Machine.execStWb1 s
  | .stWb2 => Sys2Proof.Machine.execStWb2 s
  | .stUnrecognised => Sys2Proof.Machine.execStUnrecognised s
  | .btStandard => Sys2Proof.Machine.execBtStandard s
  | .btGel => Sys2Proof.Machine.execBtGel s
  | .btAgm => Sys2Proof.Machine.execBtAgm s
  | .btUndefined => Sys2Proof.Machine.execBtUndefined s
  | .wireSync => Sys2Proof.Machine.execWireSync s
  | .wirePid id => Sys2Proof.Machine.execWirePid id s

end Sys2Proof.Machine
end

