-- ==== Sys2Proof/Machine/Step.lean ====
section
/-! DEFINITION. One step: the next action of an agent (00_scope.md R11), taken from `inputs` (log 5). A write of
register 0 is the issue of one command, which runs to completion inside the write (10_state.md R28, 20_memory.md R62,
R69). With no action to come the block does nothing: DP does nothing between TICKs (41_protocol_commands.md R158). -/

namespace Sys2Proof.Machine

/-- One action, in the state without it. -/
def stepInput (a : Input) (s : State) : Host.Outcome State Fault Refusal :=
  match a with
  | .write r v => if r = 0#6 then exec (decodeCmd v) s else .next (writeReg r v s)
  | .read r => .next (hostRead r s)
  | .advance d => .next (clockAdvance d s)
  | .busByte b => .next (busAppend b s)

/-- One step of the machine. -/
def step (s : State) : Host.Outcome State Fault Refusal :=
  match s.inputs with
  | [] => .next s
  | a :: rest => stepInput a { s with inputs := rest }

/-- The state in which the very next step is the write of this command word to `CMD`. A word of exactly 4 bits is a
state code: `STATE` takes it and the command is TICK, which dispatches on it (R151; log 4). -/
def State.withFetchWord (s : State) (nbits w : Nat) : State :=
  if nbits = 4 then
    { s with state := DpState.ofCode (BitVec.ofNat 4 w), inputs := .write 0#6 5#32 :: s.inputs }
  else { s with inputs := .write 0#6 (BitVec.ofNat 32 (w % 2 ^ nbits)) :: s.inputs }

end Sys2Proof.Machine
end

