-- ==== Sys2Proof/Safety.lean ====
section
/-! DEFINITION. The terms claims are stated in: what a run of the wire history must look like (20_memory.md R70), the
invariant of the reachable states (40_transport.md R125, 42_protocol_states.md R188), the transition graph
(42_protocol_states.md R170), what a send and a receive of DP may change (R117, R119, R187), and runs of TICK. -/

namespace Sys2Proof.Machine

/-! ### The wire history -/

/-- Follow the pin through a wire history from a pin state (`true` is transmit-enabled). `none` means that a break or
a byte went out while the pin was receive-enabled, which R70 excludes. -/
def wireRun : Bool → List WireEvent → Option Bool
  | pin, [] => some pin
  | _, .pinTx :: w => wireRun true w
  | _, .pinRx :: w => wireRun false w
  | pin, .brk :: w => if pin then wireRun pin w else none
  | pin, .byte _ :: w => if pin then wireRun pin w else none
  | pin, .setBaud _ :: w => wireRun pin w
  | pin, .flush :: w => wireRun pin w

/-! ### Device Protocol -/

/-- A device is matched in the states 3 to 14 (R188). -/
def deviceKnown : DpState → Bool
  | .nodev => false
  | .reqId => false
  | .rspId => false
  | .reqBt => true
  | .rspBt => true
  | .prep => true
  | .rf2 => true
  | .rf5 => true
  | .rf6 => true
  | .pause => true
  | .prepCfg => true
  | .wc1 => true
  | .wc2 => true
  | .wb1 => true
  | .wb2 => true
  | .unrecognised => false

/-- The successors of each state in R170's table. -/
def successors : DpState → List DpState
  | .nodev => [.reqId]
  | .reqId => [.rspId]
  | .rspId => [.reqBt, .reqId, .nodev]
  | .reqBt => [.rspBt]
  | .rspBt => [.prep, .nodev]
  | .prep => [.rf2]
  | .rf2 => [.rf5, .nodev]
  | .rf5 => [.rf6, .nodev]
  | .rf6 => [.pause, .nodev]
  | .pause => [.prepCfg, .prep]
  | .prepCfg => [.wc1]
  | .wc1 => [.wc2]
  | .wc2 => [.wb1]
  | .wb1 => [.wb2]
  | .wb2 => [.reqBt]
  | .unrecognised => [.nodev]

/-- What holds of every reachable state between steps. -/
structure State.Inv (E : Env) (s : State) : Prop where
  /-- The pin is receive-enabled (R125, R267). -/
  pinReleased : s.status.txen = false
  /-- Every break and byte went out while the pin was transmit-enabled, and the history ends receive-enabled (R70). -/
  wireBracketed : wireRun false s.wire = some false
  /-- `CAND < N_PROFILES` (R33). -/
  candInCatalog : s.cand.toNat < E.params.catalog.length
  /-- No rule writes code 15 into `STATE` (R186). -/
  recognised : s.state ≠ .unrecognised
  /-- `AVAILABLE = 1` exactly in states 3 to 14 (R188). -/
  availableIffKnown : s.status.available = deviceKnown s.state
  /-- `DEVIDX = CAND` whenever `AVAILABLE = 1` (R188). -/
  devIdxIsCand : s.status.available = true → s.devIdx = s.cand
  /-- Without a device `DEVIDX` is as the entry of `ST_NODEV` left it (R171). -/
  devIdxCleared : s.status.available = false → s.devIdx = 0
  /-- In `ST_NODEV` the cursor is as its entry action left it (R171). -/
  candCleared : s.state = .nodev → s.cand = 0
  /-- `RXCOUNT` is 0 to 9 (R30). -/
  rxCountLe : s.rxCount.toNat ≤ 9
  /-- A receive of DP returns 0 to 9 (R123). -/
  lastIoLe : s.lastIo.toNat ≤ 9
  /-- While the transport is open its timing values are those of its baud rate (R29, R114, R115). -/
  timing : s.status.opened = true →
    s.baud ≠ 0 ∧ s.byteTime = BitVec.ofNat 32 (byteTimeOf E.params s.baud.toNat) ∧
      s.fto = BitVec.ofNat 32 (frameTimeoutOf E.params s.baud.toNat)

/-! ### What a send and a receive of DP may change -/

/-- `t` is `s` after a guarded send of this payload to the diagnostic request id (R117, R118, R187): with the transport
open the frame is in `WIRE`, the pin is back and at most `T_SEND_MAX` units have passed; without it nothing happened. -/
def SentBy (p : Params) (payload : Vector Byte 8) (s t : State) : Prop :=
  if s.status.opened then
    ∃ d, d ≤ p.tSendMax ∧
      t = { s with
        status := { s.status with txen := false }
        wire := s.wire ++ ([.pinTx, .brk, .byte p.sync, .byte (pid p p.diagReqId)] ++
          payload.toList.map .byte ++ [.byte (frameCks p p.diagReqId payload.toList p.pverDp), .pinRx])
        time := s.time + BitVec.ofNat 32 d
        draws := s.draws + 1 }
  else t = s

/-- The bytes a receive with this expected length takes of an answer: the first `len + 1` of those that arrive no
later than the last poll, which is the first multiple of `POLL_STEP` above `FTO` (R119, R120). -/
def answerTaken (fto pollStep len : Nat) (answer : List (Nat × Byte)) : List Byte :=
  ((answer.takeWhile (fun a => decide (a.1 ≤ (fto / pollStep + 1) * pollStep))).map Prod.snd).take (len + 1)

/-- `k` is the poll at which a receive stops: the first one at which `len + 1` bytes have arrived or more than `FTO`
has been waited (R119). -/
def stopsAtPoll (fto pollStep len : Nat) (answer : List (Nat × Byte)) (k : Nat) : Prop :=
  let done := fun n => len + 1 ≤ (arrived (n * pollStep) answer).length ∨ fto < n * pollStep
  done k ∧ ∀ j < k, ¬done j

/-- `t` is `s` after a receive on the open transport (R119 to R123): `got`, the bytes taken of the Bus's answer to
this header, is in `RXBUF` and counted in `RXCOUNT`; the bytes beyond them that had arrived when the receive stopped
stay in `RXFIFO` (R67, R120); `RXCKOK` says whether the answer is complete and its checksum verifies, `WIRE` has the
header, at most R122's bound has passed, and only `RXBUF` beyond the count is left open. -/
def ReceivedBy (E : Env) (id : FrameId) (len : Nat) (pver : BitVec 2) (s t : State) : Prop :=
  let events : List WireEvent := [.flush, .pinTx, .brk, .byte E.params.sync, .byte (pid E.params id), .pinRx]
  let answer := E.busAnswer s.draws (s.wire ++ events)
  let got := answerTaken s.fto.toNat E.params.pollStep len answer
  (∃ d, d ≤ E.params.tSendMax + s.fto.toNat + E.params.pollStep ∧
    t = { s with
      rxBuf := t.rxBuf
      rxFifo := t.rxFifo
      rxCount := BitVec.ofNat 4 got.length
      status := { s.status with
        txen := false
        rxCkOk := decide (got.length = len + 1 ∧ wsum (cover E.params id pver ++ got) = 255) }
      wire := s.wire ++ events
      time := s.time + BitVec.ofNat 32 d
      draws := s.draws + 1 }) ∧
  (∀ (i : Nat) (h9 : i < 9) (hi : i < got.length), t.rxBuf[i] = got[i]) ∧
  (∃ k, stopsAtPoll s.fto.toNat E.params.pollStep len answer k ∧
    k * E.params.pollStep ≤ s.fto.toNat + E.params.pollStep ∧
    got ++ t.rxFifo = arrived (k * E.params.pollStep) answer)

/-- `t` is `s` after `x[LASTIO] <- recvOrZero(id, len)` (R187). -/
def LastIoReceivedBy (E : Env) (id : FrameId) (len : Nat) (s t : State) : Prop :=
  if s.status.opened = true ∧ len ≤ 8 then
    ∃ r, ReceivedBy E id len E.params.pverDp s r ∧ t = { r with lastIo := r.rxCount }
  else t = { s with lastIo := 0 }

/-- `goto` up to the entry action (R153): `STATE` and `T_LAST` are written. -/
def entered (target : DpState) (s : State) : State := { s with state := target, tLast := s.time }

/-- `B(i)` as a number, the byte `RXBUFi` for `i` up to 8. -/
def rxByte (s : State) (i : Nat) : Nat := (s.rxBuf.toList.getD i 0).toNat

/-! ### Runs of TICK -/

/-- `ADV d` and then one TICK. -/
def tickAfter (E : Env) (s : State) (d : Nat) : State := tickCmd E (clockAdvance d s)

/-- One TICK after each of the given amounts of time. -/
def runTicks (E : Env) (ds : List Nat) (s : State) : State := ds.foldl (tickAfter E) s

/-- Every amount is at least the message delay and the minimum gate, and so small that no elapsed time aliases, even
after a receive that took as long as R122 allows (R155, R270). -/
def PacedBy (E : Env) (s : State) (ds : List Nat) : Prop :=
  ∀ d ∈ ds, E.params.tMsg ≤ d ∧ E.params.tStep ≤ d ∧
    d + E.params.tSendMax + s.fto.toNat + E.params.pollStep < 2 ^ 32

end Sys2Proof.Machine
end

