-- ==== Sys2Proof/Certificates/Slice0/Obligations.lean ====
section
/-! DEFINITION. The statements for the provers, by the file of spec/ they come from. A statement about an instruction
that runs says the whole next state, so it is also what the instruction leaves unchanged. `Config.params` holds the
parameters of R7; where a statement names one of them it holds for every value the constraints allow. -/

open Sys2Proof Sys2Proof.Machine

/-! ### 30_encoding.md -/

/-- Decoding the encoded form of an instruction gives it back, in every format and with every operand (R82, R84, R95
to R99). The encoder writes the bits a row does not name as 0: the model's choice (log 4). -/
def Obligations.DecodeOfEncodeIsTheInstruction : Prop :=
  ∀ i : Instr, decode (encode i) = .ok i

/-- A command word is decoded by its four low bits, and its operand fields stand where R97 says; bits the row does not
name are ignored (R95 to R97). -/
def Obligations.CommandWordDecodesByOpcodeAndFields : Prop :=
  ∀ w : Word32,
    (w.toNat % 16 = 0 → decodeCmd w = .reservedOp0) ∧
    (w.toNat % 16 = 1 → decodeCmd w = .openBus (BitVec.ofNat 24 (w.toNat / 2 ^ 4))) ∧
    (w.toNat % 16 = 2 → decodeCmd w =
      .send (BitVec.ofNat 6 (w.toNat / 2 ^ 4)) (BitVec.ofNat 4 (w.toNat / 2 ^ 10)) (BitVec.ofNat 2 (w.toNat / 2 ^ 14))) ∧
    (w.toNat % 16 = 3 → decodeCmd w =
      .recv (BitVec.ofNat 6 (w.toNat / 2 ^ 4)) (BitVec.ofNat 4 (w.toNat / 2 ^ 10)) (BitVec.ofNat 2 (w.toNat / 2 ^ 14))) ∧
    (w.toNat % 16 = 4 → decodeCmd w = .sleep) ∧
    (w.toNat % 16 = 5 → decodeCmd w = .tick) ∧
    (w.toNat % 16 = 6 → decodeCmd w =
      .reqcfg (BitVec.ofNat 16 (w.toNat / 2 ^ 4)) (BitVec.ofNat 2 (w.toNat / 2 ^ 20))) ∧
    (w.toNat % 16 = 7 → decodeCmd w = .seths (BitVec.ofNat 1 (w.toNat / 2 ^ 4))) ∧
    (w.toNat % 16 = 8 → decodeCmd w = .reservedOp8) ∧
    (w.toNat % 16 = 9 → decodeCmd w = .reservedOp9) ∧
    (w.toNat % 16 = 10 → decodeCmd w = .reservedOp10) ∧
    (w.toNat % 16 = 11 → decodeCmd w = .reservedOp11) ∧
    (w.toNat % 16 = 12 → decodeCmd w = .reservedOp12) ∧
    (w.toNat % 16 = 13 → decodeCmd w = .reservedOp13) ∧
    (w.toNat % 16 = 14 → decodeCmd w = .reservedOp14) ∧
    (w.toNat % 16 = 15 → decodeCmd w = .reservedOp15)

/-- A few words written out from the spec's encodings decode to the instructions they stand for
(95_test_vectors.md section 6, 30_encoding.md R98, R99, R82, R83). -/
def Obligations.SampleWordsDecode : Prop :=
  decode (.cmd32 0x0004B001) = .ok (.openBus 19200) ∧
  decode (.cmd32 0x0000A212) = .ok (.send 0x21 8 2) ∧
  decode (.cmd32 0x00009E23) = .ok (.recv 0x22 7 2) ∧
  decode (.cmd32 0xFFFFFFF5) = .ok .tick ∧
  decode (.cmd32 0x003012C6) = .ok (.reqcfg 300 3) ∧
  decode (.cmd32 0xFFFFFFFF) = .ok .reservedOp15 ∧
  decode (.state4 9) = .ok .stPause ∧
  decode (.btype2 2) = .ok .btAgm ∧
  decode (.wire8 .sync 0x55) = .ok .wireSync ∧
  decode (.wire8 .address 0x7D) = .ok (.wirePid 0x3D)

/-- The address byte carries the id in bits 5:0, P0 in bit 6 and P1 in bit 7, with the equations of R83, which are the
default of the configuration field `parity` (R7; log 13). -/
def Obligations.AddressByteHoldsIdAndParityBits : Prop :=
  ∀ id : FrameId,
    (∀ k : Fin 6, (pid Config.params id)[k.val] = id[k.val]) ∧
    (pid Config.params id)[6] = (id[0] ^^ id[1] ^^ id[2] ^^ id[4]) ∧
    (pid Config.params id)[7] = !(id[1] ^^ id[3] ^^ id[4] ^^ id[5])

/-- For all parity equations: `pidDecode` gives an id exactly for the address byte of that id, so `pid` is injective,
and exactly 64 bytes are valid (R84). -/
def Obligations.PidDecodeInvertsPid : Prop :=
  ∀ p : Params,
    (∀ id : FrameId, pidDecode p (pid p id) = some id) ∧
    (∀ (b : Byte) (id : FrameId), pidDecode p b = some id → b = pid p id) ∧
    (∀ id id' : FrameId, pid p id = pid p id' → id = id') ∧
    ((List.range 256).countP fun n => (pidDecode p (BitVec.ofNat 8 n)).isSome) = 64

/-- `decodeFrame` inverts `encodeFrame` under the same version flag, answers only for such frames, and under another
flag answers only where the two checksums are equal (R89). -/
def Obligations.DecodeFrameInvertsEncodeFrame : Prop :=
  ∀ p : Params,
    (∀ (id : FrameId) (payload : List Byte) (v v' : BitVec 2), payload.length ≤ 8 →
      decodeFrame p (encodeFrame p id payload v) v' =
        if frameCks p id payload v = frameCks p id payload v' then some (id, payload) else none) ∧
    (∀ (bytes : List Byte) (v : BitVec 2) (id : FrameId) (payload : List Byte),
      3 ≤ bytes.length → bytes.length ≤ 11 →
      decodeFrame p bytes v = some (id, payload) → bytes = encodeFrame p id payload v ∧ payload.length ≤ 8)

/-! ### 40_transport.md -/

/-- The six laws of the checksum generator (R112): the sum before and after a wrap, the closed form, the order of the
bytes, the fold of a wide sum, the range of the checksum, and the verifier. -/
def Obligations.ChecksumGeneratorLaws : Prop :=
  (∀ (l : List Byte) (b : Byte), wsum l ≤ 255 ∧ wsum l + b.toNat ≤ 510 ∧ wsum (l ++ [b]) ≤ 255 ∧
    (wsum (l ++ [b]) = wsum l + b.toNat ∨ (256 ≤ wsum l + b.toNat ∧ wsum (l ++ [b]) = wsum l + b.toNat - 255))) ∧
  (∀ l : List Byte, wsum l =
    if (l.map BitVec.toNat).sum = 0 then 0 else ((l.map BitVec.toNat).sum - 1) % 255 + 1) ∧
  (∀ l l' : List Byte, l.Perm l' → wsum l = wsum l') ∧
  (∀ l : List Byte, ∃ k, wsum l = (fun s => s % 256 + s / 256)^[k] (l.map BitVec.toNat).sum ∧
    ∀ j < k, 256 ≤ (fun s => s % 256 + s / 256)^[j] (l.map BitVec.toNat).sum) ∧
  ((∀ b : Byte, ∃ l, cks l = b) ∧ cks [] = 0xFF ∧ cks [0xFF] = 0x00 ∧ cks [0x01] = 0xFE) ∧
  (∀ l : List Byte, wsum (l ++ [cks l]) = 0xFF ∧ cks (l ++ [cks l]) = 0x00)

/-- `byteTime` and `frameTimeout` are the rounded-up quotients of R115, and `frameTimeout` is at least 1. The break
delimiter, 1 in R115, is the parameter `breakDelimiterBits` (log 13), which is 1 for the machine. -/
def Obligations.TimingValuesAreRoundedUpQuotients : Prop :=
  ∀ (p : Params) (baud n : Nat), 0 < baud → 0 < p.timeoutDen →
    (byteTimeOf p baud ≤ n ↔ p.bitsPerByte * 1000000 ≤ n * baud) ∧
    (frameTimeoutOf p baud ≤ n ↔
      1 ≤ n ∧ p.timeoutNum * (p.breakBits + p.breakDelimiterBits + p.bitsPerByte * (8 + 3)) * p.unitsPerSecond ≤
        n * (p.timeoutDen * baud))

/-- OPEN (R114): with `baud = 0` it is refused and closes the transport; else the channel's answer (an answer of the
environment, log 6) decides between the configured transport and a closed one. -/
def Obligations.OpenConfiguresOrClosesTheTransport : Prop :=
  ∀ (baud : BitVec 24) (s : State),
    (baud = 0 → exec (.openBus baud) s =
      .next { s with status := { s.status with opened := false, cmdErr := true } }) ∧
    (baud ≠ 0 → exec (.openBus baud) s =
      if Config.baudOk s.draws baud then
        .next { s with
          baud := baud
          byteTime := BitVec.ofNat 32 (byteTimeOf Config.params baud.toNat)
          fto := BitVec.ofNat 32 (frameTimeoutOf Config.params baud.toNat)
          status := { s.status with opened := true, txen := false }
          wire := s.wire ++ [.setBaud baud, .pinRx]
          draws := s.draws + 1 }
      else
        .next { s with
          status := { s.status with opened := false }
          wire := s.wire ++ [.setBaud baud]
          draws := s.draws + 1 })

/-- SEND on the open transport puts exactly the events of R117 in `WIRE`, with the payload `TXBUF0 .. TXBUF(len-1)`,
lets at most `T_SEND_MAX` units pass, and changes nothing else (R116 to R118). -/
def Obligations.SendPutsTheFrameOnTheWire : Prop :=
  ∀ (id : FrameId) (len : BitVec 4) (pver : BitVec 2) (s : State),
    s.status.opened = true → len.toNat ≤ 8 →
    ∃ d, d ≤ Config.params.tSendMax ∧ exec (.send id len pver) s =
      .next { s with
        status := { s.status with txen := false }
        wire := s.wire ++ ([.pinTx, .brk, .byte Config.params.sync, .byte (pid Config.params id)] ++
          (s.txBuf.toList.take len.toNat).map .byte ++
          [.byte (frameCks Config.params id (s.txBuf.toList.take len.toNat) pver), .pinRx])
        time := s.time + BitVec.ofNat 32 d
        draws := s.draws + 1 }

/-- SLEEP sends the sleep payload to the diagnostic request id with the classic checksum, and changes nothing else;
without a transport it is refused (R124). -/
def Obligations.SleepSendsTheSleepFrame : Prop :=
  ∀ s : State,
    (s.status.opened = true →
      ∃ d, d ≤ Config.params.tSendMax ∧ exec .sleep s =
        .next { s with
          status := { s.status with txen := false }
          wire := s.wire ++ ([.pinTx, .brk, .byte Config.params.sync,
              .byte (pid Config.params Config.params.diagReqId)] ++
            Config.params.sleepPayload.toList.map .byte ++
            [.byte (cks Config.params.sleepPayload.toList), .pinRx])
          time := s.time + BitVec.ofNat 32 d
          draws := s.draws + 1 }) ∧
    (s.status.opened = false → exec .sleep s = .next { s with status := { s.status with cmdErr := true } })

/-- RECV on the open transport (R119 to R123): see `ReceivedBy`. That an answer is a list of bytes with arrival times is
the model's reading of R66 (log 8), that the time that passes is any amount within the bound is U14 (log 7). -/
def Obligations.RecvTakesTheAnswer : Prop :=
  ∀ (id : FrameId) (len : BitVec 4) (pver : BitVec 2) (s : State),
    s.status.opened = true → len.toNat ≤ 8 →
    ∃ t, exec (.recv id len pver) s = .next t ∧ ReceivedBy Config.env id len.toNat pver s t

/-- Bytes that were in `RXFIFO` before a receive, late answers among them, have no effect on it (R67, R272). -/
def Obligations.StaleBytesDoNotAffectAReceive : Prop :=
  ∀ (id : FrameId) (len : BitVec 4) (pver : BitVec 2) (s : State) (stale : List Byte),
    s.status.opened = true → len.toNat ≤ 8 →
    ∃ t, exec (.recv id len pver) s = .next t ∧ exec (.recv id len pver) { s with rxFifo := stale } = .next t

/-- The polling loop of R119, for every timeout and poll step: it takes the first `len + 1` bytes of those that arrive
no later than the last poll, and what it leaves in `RXFIFO` are the next bytes that had arrived when it stopped, at the
first poll with enough bytes or the timeout behind it, no later than `FTO + POLL_STEP` (R67, R119, R120, R122). -/
def Obligations.PollLoopTakesTheFirstBytesThatArrive : Prop :=
  ∀ (fto pollStep len : Nat) (answer : List (Nat × Byte)), 1 ≤ pollStep →
    let r := pollLoop fto pollStep (len + 1) (fto + 2) 0 [] answer []
    r.1 = answerTaken fto pollStep len answer ∧
    ∃ k, stopsAtPoll fto pollStep len answer k ∧ k * pollStep ≤ fto + pollStep ∧
      r.1 ++ r.2 = arrived (k * pollStep) answer

/-- The refusals of R240: no effect but `CMDERR <- 1` (and `OPEN <- 0` for OPEN with `baud = 0`); `CMDERR` is sticky, no
step clears it; and the guarded calls DP makes in a TICK do not set it. -/
def Obligations.RefusalsSetTheStickyCmdErr : Prop :=
  (∀ s : State,
    (∀ i ∈ [Instr.reservedOp0, .reservedOp8, .reservedOp9, .reservedOp10, .reservedOp11, .reservedOp12, .reservedOp13,
        .reservedOp14, .reservedOp15],
      exec i s = .next { s with status := { s.status with cmdErr := true } }) ∧
    (∀ (id : FrameId) (len : BitVec 4) (pver : BitVec 2), s.status.opened = false ∨ 9 ≤ len.toNat →
      exec (.send id len pver) s = .next { s with status := { s.status with cmdErr := true } } ∧
      exec (.recv id len pver) s = .next { s with status := { s.status with cmdErr := true } }) ∧
    (s.status.opened = false → exec .sleep s = .next { s with status := { s.status with cmdErr := true } }) ∧
    exec (.openBus 0) s = .next { s with status := { s.status with opened := false, cmdErr := true } } ∧
    ∃ t, exec .tick s = .next t ∧ t.status.cmdErr = s.status.cmdErr) ∧
  (∀ s t : State, step s = .next t → s.status.cmdErr = true → t.status.cmdErr = true)

/-! ### 41_protocol_commands.md -/

/-- REQCFG records the request and marks it pending, in every state (R152). -/
def Obligations.ReqcfgRecordsTheRequest : Prop :=
  ∀ (cap : BitVec 16) (btype : BitVec 2) (s : State),
    exec (.reqcfg cap btype) s =
      .next { s with cfg := btype ++ cap, status := { s.status with cfgPending := true } }

/-- SETHS writes `HIGHSPEED` and nothing else (R154). -/
def Obligations.SethsWritesHighSpeed : Prop :=
  ∀ (en : BitVec 1) (s : State),
    exec (.seths en) s = .next { s with status := { s.status with highSpeed := en[0] } }

/-- TICK does what the state code's row does (R151); it is never refused. That the rows of the state codes are
instructions is the model's reading (log 1). -/
def Obligations.TickRunsTheRowOfItsState : Prop :=
  ∀ s : State, ∃ t, exec .tick s = .next t ∧ exec (decodeState s.state.code) s = .next t

/-- With no time elapsed since the last transition TICK changes nothing (R158, R155). -/
def Obligations.TickIsIdempotentAtZeroElapsedTime : Prop :=
  ∀ s : State, s.time = s.tLast → s.state ≠ .unrecognised → exec .tick s = .next s

/-- A TICK lets no more time pass than R158 says, and makes at most one `goto`, which writes the time at its start. -/
def Obligations.TickTimeIsBounded : Prop :=
  ∀ s : State, ∃ t d, exec .tick s = .next t ∧
    d ≤ max Config.params.tSendMax (Config.params.tSendMax + s.fto.toNat + Config.params.pollStep) ∧
    t.time = s.time + BitVec.ofNat 32 d ∧ (t = s ∨ t.tLast = s.time)

/-- A TICK puts at most one frame or header on the wire (R151, R188). -/
def Obligations.TickSendsAtMostOneBreak : Prop :=
  ∀ s : State, ∃ t events, exec .tick s = .next t ∧ t.wire = s.wire ++ events ∧
    events.countP (· == .brk) ≤ 1

/-- What TICK never writes: no rule of a state does (R151), and DP's own calls are guarded and do not set `CMDERR`
(R187, R240). `inputs` and `readData` are the model's own fields (log 5, log 15). -/
def Obligations.TickFrame : Prop :=
  ∀ s : State, ∃ t, exec .tick s = .next t ∧
    t.txBuf = s.txBuf ∧ t.baud = s.baud ∧ t.byteTime = s.byteTime ∧ t.fto = s.fto ∧ t.cfg = s.cfg ∧
    t.inputs = s.inputs ∧ t.readData = s.readData ∧
    t.status.opened = s.status.opened ∧ t.status.highSpeed = s.status.highSpeed ∧ t.status.cmdErr = s.status.cmdErr

/-- A TICK changes each snapshot register and flag, `BATTYPE`, `ACT` and `CFG_PENDING` only in the state it belongs to:
a decode writes only the registers of its frame (R156, R200). Of TICK alone: REQCFG sets `CFG_PENDING` in every state
(R152). -/
def Obligations.SnapshotChangesOnlyInItsOwnFrame : Prop :=
  ∀ s : State, ∃ t, exec .tick s = .next t ∧
    (s.state ≠ .rf2 → t.snap.vRaw = s.snap.vRaw ∧ t.snap.iRaw = s.snap.iRaw ∧ t.snap.tRaw = s.snap.tRaw ∧
      t.status.errFlag = s.status.errFlag) ∧
    (s.state ≠ .rf5 → t.snap.socRaw = s.snap.socRaw ∧ t.snap.sohRaw = s.snap.sohRaw ∧
      t.snap.ocvRaw = s.snap.ocvRaw ∧ t.snap.riRaw = s.snap.riRaw) ∧
    (s.state ≠ .rf6 → t.snap.capAvailRaw = s.snap.capAvailRaw ∧ t.snap.capDisRaw = s.snap.capDisRaw ∧
      t.snap.capNomRaw = s.snap.capNomRaw ∧ t.status.calibrated = s.status.calibrated) ∧
    (s.state ≠ .rspBt → t.battType = s.battType) ∧
    (s.state ≠ .pause → t.act = s.act ∧ t.status.cfgPending = s.status.cfgPending)

/-- A request made in any state but `ST_PAUSE` does not alter what the next TICK does (R152). -/
def Obligations.ReqcfgDoesNotDisturbTickOutsidePause : Prop :=
  ∀ (cap : BitVec 16) (btype : BitVec 2) (s : State), s.state ≠ .pause →
    ∃ t, exec .tick s = .next t ∧
      exec .tick { s with cfg := btype ++ cap, status := { s.status with cfgPending := true } } =
        .next { t with cfg := btype ++ cap, status := { t.status with cfgPending := true } }

/-! ### 42_protocol_states.md -/

/-- `ST_NODEV` (R171), for every quiet period. A state code's row is what a TICK does in that state: the model's
reading (log 1), here and in the next statements of this section. -/
def Obligations.NodevLeavesAfterTheQuietPeriod : Prop :=
  ∀ s : State, exec .stNodev s = .next (tickNodev Config.env s) ∧
    ∀ E : Env,
      if E.params.tQuiet ≤ (s.time - s.tLast).toNat ∧ s.status.opened = true then
        SentBy E.params (idRequest E.params (profile E s.cand.toNat)) (entered .reqId s) (tickNodev E s)
      else tickNodev E s = s

/-- `ST_REQID` and `ST_REQBT` receive the diagnostic response after the message delay (R172, R174), `ST_PREP` receives
frame 2 after the minimum gate (R176, R177; log 1), for every delay and every Bus. -/
def Obligations.RequestStatesReceiveAfterTheirDelay : Prop :=
  ∀ s : State,
    (exec .stReqid s = .next (tickReqid Config.env s) ∧ exec .stReqbt s = .next (tickReqbt Config.env s) ∧
      exec .stPrep s = .next (tickPrep Config.env s)) ∧
    ∀ E : Env, E.params.Ok →
      (E.params.tMsg ≤ (s.time - s.tLast).toNat →
        LastIoReceivedBy E E.params.diagRspId 8 (entered .rspId s) (tickReqid E s) ∧
        LastIoReceivedBy E E.params.diagRspId 8 (entered .rspBt s) (tickReqbt E s)) ∧
      (E.params.tStep ≤ (s.time - s.tLast).toNat →
        LastIoReceivedBy E (profile E s.devIdx.toNat).frame2.id (profile E s.devIdx.toNat).frame2.len
          (entered .rf2 s) (tickPrep E s))

/-- `ST_RSPID` (R173; log 1), for every catalog: no byte tries the next candidate or gives up after the last, any byte
is a match. -/
def Obligations.RspidMatchesOrTriesTheNextCandidate : Prop :=
  ∀ s : State, exec .stRspid s = .next (tickRspid Config.env s) ∧
    ∀ E : Env, E.params.tStep ≤ (s.time - s.tLast).toNat →
      if s.lastIo = 0 then
        if E.params.catalog.length ≤ s.cand.toNat + 1 then
          tickRspid E s = { entered .nodev s with
            cand := 0, devIdx := 0, status := { s.status with available := false } }
        else
          SentBy E.params (idRequest E.params (profile E (s.cand + 1).toNat))
            (entered .reqId { s with cand := s.cand + 1 }) (tickRspid E s)
      else
        SentBy E.params (btRead E.params (profile E s.cand.toNat))
          (entered .reqBt { s with devIdx := s.cand, status := { s.status with available := true } })
          (tickRspid E s)

/-- The failure transition of the four receiving states that have a matched device (R235, R231, R236; log 1): it changes
`STATE`, `T_LAST`, `CAND`, `DEVIDX` and `AVAILABLE`, and nothing else. -/
def Obligations.NoAnswerLosesTheDevice : Prop :=
  ∀ s : State, Config.params.tStep ≤ (s.time - s.tLast).toNat → s.lastIo = 0 →
    ∀ i ∈ [Instr.stRspbt, .stRf2, .stRf5, .stRf6],
      exec i s = .next { s with
        state := .nodev
        tLast := s.time
        cand := 0
        devIdx := 0
        status := { s.status with available := false } }

/-- `ST_RSPBT` with an answer keeps the raw battery-type byte (R175, R213; log 1). -/
def Obligations.RspbtKeepsTheBatteryTypeByte : Prop :=
  ∀ s : State, Config.params.tStep ≤ (s.time - s.tLast).toNat → s.lastIo ≠ 0 →
    ∃ b : Byte, b.toNat = rxByte s Config.params.btRspOff.val ∧
      exec .stRspbt s = .next { s with state := .prep, tLast := s.time, battType := b }

/-- The three telemetry states with an answer decode their frame, whatever its length or checksum, and go on with the
next receive or the pause (R177 to R179, R200, R232; log 1). -/
def Obligations.TelemetryStatesDecodeAndGoOn : Prop :=
  ∀ s : State, Config.params.tStep ≤ (s.time - s.tLast).toNat → s.lastIo ≠ 0 →
    (∃ t, exec .stRf2 s = .next t ∧
      LastIoReceivedBy Config.env (profile Config.env s.devIdx.toNat).frame5.id
        (profile Config.env s.devIdx.toNat).frame5.len (entered .rf5 (decode2 Config.env s)) t) ∧
    (∃ t, exec .stRf5 s = .next t ∧
      LastIoReceivedBy Config.env (profile Config.env s.devIdx.toNat).frame6.id
        (profile Config.env s.devIdx.toNat).frame6.len (entered .rf6 (decode5 Config.env s)) t) ∧
    exec .stRf6 s = .next (entered .pause (decode6 Config.env s))

/-- `ST_PAUSE` (R180): a pending request is served after the minimum gate and captured, whatever the polling interval
(R71, R181); else the interval decides, the shorter one in high-speed mode (log 1). -/
def Obligations.PauseServesARequestOrPolls : Prop :=
  ∀ s : State, exec .stPause s =
    if s.status.cfgPending then
      if Config.params.tStep ≤ (s.time - s.tLast).toNat then
        .next { s with
          state := .prepCfg, tLast := s.time, act := s.cfg, status := { s.status with cfgPending := false } }
      else .next s
    else if (if s.status.highSpeed then Config.params.tPollHs else Config.params.tPoll) ≤ (s.time - s.tLast).toNat then
      .next { s with state := .prep, tLast := s.time }
    else .next s

/-- The states of the configuration write (R181 to R185; log 1): each sends the next frame when its gate has passed, for
every delay, every template and every catalog. -/
def Obligations.ConfigurationStatesSendTheNextFrame : Prop :=
  ∀ s : State,
    (exec .stPrepcfg s = .next (tickPrepcfg Config.env s) ∧ exec .stWc1 s = .next (tickWc1 Config.env s) ∧
      exec .stWc2 s = .next (tickWc2 Config.env s) ∧ exec .stWb1 s = .next (tickWb1 Config.env s) ∧
      exec .stWb2 s = .next (tickWb2 Config.env s)) ∧
    ∀ E : Env,
      let P := profile E s.devIdx.toNat
      (E.params.tStep ≤ (s.time - s.tLast).toNat →
        SentBy E.params (capRetrieve E.params P) (entered .wc1 s) (tickPrepcfg E s)) ∧
      (E.params.tMsg ≤ (s.time - s.tLast).toNat →
        SentBy E.params (capWrite E.params P (s.act.extractLsb' 0 16)) (entered .wc2 s) (tickWc1 E s) ∧
        SentBy E.params (btRetrieve E.params P) (entered .wb1 s) (tickWc2 E s) ∧
        SentBy E.params (btWrite E.params P (s.act.extractLsb' 16 2)) (entered .wb2 s) (tickWb1 E s) ∧
        SentBy E.params (btRead E.params P) (entered .reqBt s) (tickWb2 E s))

/-- Before its gate has passed each of the fifteen states does nothing (R155, R171 to R185; log 1). `ST_NODEV` is also
held back while there is no transport; the gate of `ST_PAUSE` depends on `CFG_PENDING` and `HIGHSPEED` (R180). -/
def Obligations.GatesHoldEveryStateBack : Prop :=
  ∀ s : State,
    ((s.time - s.tLast).toNat < Config.params.tQuiet ∨ s.status.opened = false → exec .stNodev s = .next s) ∧
    ((s.time - s.tLast).toNat < Config.params.tMsg →
      ∀ i ∈ [Instr.stReqid, .stReqbt, .stWc1, .stWc2, .stWb1, .stWb2], exec i s = .next s) ∧
    ((s.time - s.tLast).toNat < Config.params.tStep →
      ∀ i ∈ [Instr.stRspid, .stRspbt, .stPrep, .stRf2, .stRf5, .stRf6, .stPrepcfg], exec i s = .next s) ∧
    ((s.time - s.tLast).toNat <
        (if s.status.cfgPending then Config.params.tStep
          else if s.status.highSpeed then Config.params.tPollHs else Config.params.tPoll) →
      exec .stPause s = .next s)

/-- Code 15 goes to `ST_NODEV`, not gated by time (R186; log 1). -/
def Obligations.UnrecognisedStateGoesToNodev : Prop :=
  ∀ s : State, exec .stUnrecognised s =
    .next { s with
      state := .nodev, tLast := s.time, cand := 0, devIdx := 0, status := { s.status with available := false } }

/-- The frame sent for each battery-type code carries `BT_WIRE[code]` (R99, R185, R220). That a code's row is this send
is the model's reading (log 2). -/
def Obligations.BatteryTypeCodesSendTheirWireByte : Prop :=
  ∀ s : State,
    let P := profile Config.env s.devIdx.toNat
    (∃ t, exec .btStandard s = .next t ∧ SentBy Config.params (btWrite Config.params P 0) s t) ∧
    (∃ t, exec .btGel s = .next t ∧ SentBy Config.params (btWrite Config.params P 1) s t) ∧
    (∃ t, exec .btAgm s = .next t ∧ SentBy Config.params (btWrite Config.params P 2) s t) ∧
    (∃ t, exec .btUndefined s = .next t ∧ SentBy Config.params (btWrite Config.params P 3) s t)

/-- The two symbols of a header are one byte each in `WIRE` (R16, R82, R83). That a symbol's row is one `ChWrite` is the
model's reading (log 3). -/
def Obligations.HeaderSymbolsAreOneByteEach : Prop :=
  ∀ (id : FrameId) (s : State),
    exec .wireSync s = .next { s with wire := s.wire ++ [.byte Config.params.sync] } ∧
    exec (.wirePid id) s = .next { s with wire := s.wire ++ [.byte (pid Config.params id)] }

/-- `STATE` changes only along R170's graph, and no transition leads to code 15 (R170, R186). -/
def Obligations.TickFollowsTheTransitionGraph : Prop :=
  ∀ s : State, ∃ t, exec .tick s = .next t ∧ (t = s ∨ t.state ∈ successors s.state) ∧
    t.state ≠ .unrecognised

/-- A bus that never answers: `2 * N_PROFILES` transitions after `ST_NODEV` was left, and no sooner, DP is back there
with the pin receive-enabled, for every configuration and every pace that lets each gate pass (R188, property 1). -/
def Obligations.SilentBusLeadsBackToNodev : Prop :=
  ∀ (E : Env) (s : State) (ds : List Nat), E.params.Ok → (∀ n w, E.busAnswer n w = []) →
    s.state = .reqId → s.cand = 0 → s.status.txen = false → (s.time - s.tLast).toNat ≤ E.params.tSendMax →
    ds.length = 2 * E.params.catalog.length → PacedBy E s ds →
    (runTicks E ds s).state = .nodev ∧ (runTicks E ds s).status.txen = false ∧
      ∀ k < 2 * E.params.catalog.length, (runTicks E (ds.take k) s).state ≠ .nodev

/-- A bus that answers only the id request of candidate `k`: discovery ends in `ST_REQBT` having selected exactly
index `k` (R173, and the source's discovery property quoted there). -/
def Obligations.DiscoverySelectsTheAnsweringCandidate : Prop :=
  ∀ (E : Env) (s : State) (d0 : Nat) (ds : List Nat) (k : Nat) (b : Byte), E.params.Ok →
    k < E.params.catalog.length →
    (∀ n w c, c < E.params.catalog.length →
      E.busAnswer n (w ++ sendEvents E.params E.params.diagReqId (idRequest E.params (profile E c)).toList
        E.params.pverDp ++ recvEvents E.params E.params.diagRspId) = if c = k then [(0, b)] else []) →
    s.state = .nodev → s.cand = 0 → s.status.opened = true →
    E.params.tQuiet ≤ (s.time - s.tLast).toNat + d0 → (s.time - s.tLast).toNat + d0 < 2 ^ 32 →
    ds.length = 2 * (k + 1) → PacedBy E s ds →
    let t := runTicks E (d0 :: ds) s
    t.state = .reqBt ∧ t.devIdx.toNat = k ∧ t.status.available = true

/-- The configuration write puts exactly four frames on the wire, in the order retrieve capacity, write capacity,
retrieve battery type, write battery type, and the fifth is the battery-type request (R185). -/
def Obligations.ConfigurationWriteSendsFourFramesInOrder : Prop :=
  ∀ (E : Env) (s : State) (ds : List Nat), E.params.Ok → s.state = .prepCfg → s.status.opened = true →
    (s.time - s.tLast).toNat ≤ E.params.tSendMax → ds.length = 5 → PacedBy E s ds →
    let P := profile E s.devIdx.toNat
    let t := runTicks E ds s
    t.state = .reqBt ∧ t.act = s.act ∧ t.cfg = s.cfg ∧
    t.wire = s.wire ++
      ([capRetrieve E.params P, capWrite E.params P (s.act.extractLsb' 0 16), btRetrieve E.params P,
        btWrite E.params P (s.act.extractLsb' 16 2), btRead E.params P].flatMap fun payload =>
          sendEvents E.params E.params.diagReqId payload.toList E.params.pverDp)

/-! ### 43_decode_and_frames.md: for every layout and every catalog -/

/-- Frame 2 (R201 to R205): each field whose bytes lie in the frame; the other registers stay. -/
def Obligations.Frame2Decode : Prop :=
  ∀ (E : Env) (s : State),
    let P := profile E s.devIdx.toNat
    let L := E.layout P
    let t := decode2 E s
    (L.voltOff.val + 1 < P.frame2.len →
      t.snap.vRaw.toNat = rxByte s L.voltOff.val * 256 + rxByte s (L.voltOff.val + 1)) ∧
    (L.curOff.val + 2 < P.frame2.len → t.snap.iRaw.toNat =
      if L.curBigEndian then
        rxByte s L.curOff.val * 65536 + rxByte s (L.curOff.val + 1) * 256 + rxByte s (L.curOff.val + 2)
      else rxByte s L.curOff.val + rxByte s (L.curOff.val + 1) * 256 + rxByte s (L.curOff.val + 2) * 65536) ∧
    (L.tempOff.val < P.frame2.len → t.snap.tRaw.toNat = rxByte s L.tempOff.val) ∧
    (L.errOff.val < P.frame2.len → (t.status.errFlag = true ↔ rxByte s L.errOff.val &&& L.errMask.toNat ≠ 0)) ∧
    t = { s with
      snap := { s.snap with vRaw := t.snap.vRaw, iRaw := t.snap.iRaw, tRaw := t.snap.tRaw }
      status := { s.status with errFlag := t.status.errFlag }
      draws := s.draws + 1 }

/-- Frame 5 (R206 to R208). -/
def Obligations.Frame5Decode : Prop :=
  ∀ (E : Env) (s : State),
    let P := profile E s.devIdx.toNat
    let L := E.layout P
    let t := decode5 E s
    (L.socOff.val < P.frame5.len → t.snap.socRaw.toNat = rxByte s L.socOff.val) ∧
    (L.sohOff.val < P.frame5.len → t.snap.sohRaw.toNat = rxByte s L.sohOff.val) ∧
    (L.ocvOff.val < P.frame5.len → t.snap.ocvRaw.toNat = rxByte s L.ocvOff.val) ∧
    (L.riOff.val + 1 < P.frame5.len →
      t.snap.riRaw.toNat = rxByte s L.riOff.val + rxByte s (L.riOff.val + 1) * 256) ∧
    t = { s with
      snap := { s.snap with
        socRaw := t.snap.socRaw, sohRaw := t.snap.sohRaw, ocvRaw := t.snap.ocvRaw, riRaw := t.snap.riRaw }
      draws := s.draws + 1 }

/-- Frame 6 (R209); nothing is doubled (R221). -/
def Obligations.Frame6Decode : Prop :=
  ∀ (E : Env) (s : State),
    let P := profile E s.devIdx.toNat
    let L := E.layout P
    let t := decode6 E s
    (L.availOff.val + 1 < P.frame6.len →
      t.snap.capAvailRaw.toNat = rxByte s L.availOff.val + rxByte s (L.availOff.val + 1) * 256) ∧
    (L.disOff.val + 1 < P.frame6.len →
      t.snap.capDisRaw.toNat = rxByte s L.disOff.val + rxByte s (L.disOff.val + 1) * 256) ∧
    (L.nomOff.val < P.frame6.len → t.snap.capNomRaw.toNat = rxByte s L.nomOff.val) ∧
    (L.calOff.val < P.frame6.len → (t.status.calibrated = true ↔ rxByte s L.calOff.val &&& L.calMask.toNat ≠ 0)) ∧
    t = { s with
      snap := { s.snap with
        capAvailRaw := t.snap.capAvailRaw, capDisRaw := t.snap.capDisRaw, capNomRaw := t.snap.capNomRaw }
      status := { s.status with calibrated := t.status.calibrated }
      draws := s.draws + 1 }

/-- The physical values of the snapshot: the function of the raw register and the range of each (R210); for the
optimum charge voltage also the integer form of R207. -/
def Obligations.PhysicalValueFunctionsAndRanges : Prop :=
  ∀ n : Snapshot,
    (n.batteryVoltage = (n.vRaw.toNat : Rat) / 1000 ∧ 0 ≤ n.batteryVoltage ∧ n.batteryVoltage ≤ 65535 / 1000) ∧
    (n.batteryCurrent = ((n.iRaw.toNat : Rat) - 2000000) / 1000 ∧ -2000 ≤ n.batteryCurrent ∧
      n.batteryCurrent ≤ 14777215 / 1000) ∧
    (n.temperature = (n.tRaw.toNat : Rat) / 2 - 40 ∧ -40 ≤ n.temperature ∧ n.temperature ≤ 175 / 2) ∧
    (n.stateOfCharge = (n.socRaw.toNat : Rat) / 2 ∧ 0 ≤ n.stateOfCharge ∧ n.stateOfCharge ≤ 255 / 2) ∧
    (n.stateOfHealth = (n.sohRaw.toNat : Rat) / 2 ∧ 0 ≤ n.stateOfHealth ∧ n.stateOfHealth ≤ 255 / 2) ∧
    (n.optimumChargeVoltage = 13 + ((n.ocvRaw.toNat : Rat) - 160) / 20 ∧
      n.optimumChargeVoltage = ((5000 + 50 * n.ocvRaw.toNat : Nat) : Rat) / 1000 ∧
      5 ≤ n.optimumChargeVoltage ∧ n.optimumChargeVoltage ≤ 71 / 4) ∧
    (n.internalResistance = (n.riRaw.toNat : Rat) / 100 ∧ 0 ≤ n.internalResistance ∧
      n.internalResistance ≤ 65535 / 100) ∧
    (n.availableCapacity = (n.capAvailRaw.toNat : Rat) / 10 ∧ 0 ≤ n.availableCapacity ∧
      n.availableCapacity ≤ 65535 / 10) ∧
    (n.dischargeableCapacity = (n.capDisRaw.toNat : Rat) / 10 ∧ 0 ≤ n.dischargeableCapacity ∧
      n.dischargeableCapacity ≤ 65535 / 10) ∧
    (n.nominalCapacity = n.capNomRaw.toNat ∧ n.nominalCapacity ≤ 255)

/-- Every byte of the six diagnostic requests (R215 to R220): the template's, but the node address at `NAD_OFF` and the
value byte at its offset, which is written last. -/
def Obligations.DiagnosticRequestBytes : Prop :=
  ∀ (P : Params) (d : DeviceProfile) (cap : BitVec 16) (c : BitVec 2) (k : Fin 8),
    (idRequest P d)[k.val] = (if k = P.nadOff then d.nodeAddress else d.diagTemplate[k.val]) ∧
    (btRead P d)[k.val] = (if k = P.nadOff then d.nodeAddress else P.tplBtRead[k.val]) ∧
    (capRetrieve P d)[k.val] = (if k = P.nadOff then d.nodeAddress else P.tplCapRetrieve[k.val]) ∧
    (btRetrieve P d)[k.val] = (if k = P.nadOff then d.nodeAddress else P.tplBtRetrieve[k.val]) ∧
    (capWrite P d cap)[k.val] =
      (if k = P.capValOff then BitVec.ofNat 8 (cap.toNat % 256)
        else if k = P.nadOff then d.nodeAddress else P.tplCapWrite[k.val]) ∧
    (btWrite P d c)[k.val] =
      (if k = P.btValOff then P.btWire.toList.getD c.toNat 0
        else if k = P.nadOff then d.nodeAddress else P.tplBtWrite[k.val])

/-! ### 10_state.md and 20_memory.md: the port, the other agents, reset -/

/-- A write of `CMD` runs the decoded command, and nothing else happens in that step (R28, R62). -/
def Obligations.StepRunsTheDecodedCommand : Prop :=
  ∀ (w : Word32) (rest : List Input) (s : State), s.inputs = .write 0 w :: rest →
    step s = exec (decodeCmd w) { s with inputs := rest }

/-- A register read changes nothing but the value the host gets (R62). `readData`, which holds it, is the model's field
(log 15). -/
def Obligations.ReadHasNoSideEffect : Prop :=
  ∀ (r : BitVec 6) (rest : List Input) (s : State), s.inputs = .read r :: rest →
    step s = .next { s with inputs := rest, readData := readReg r s }

/-- A write of any number but that of `CMD` stores in `TXBUFn` the value truncated to 8 bits, or is ignored (R37,
R61). -/
def Obligations.WritesReachOnlyTxbuf : Prop :=
  ∀ (r : BitVec 6) (v : Word32) (rest : List Input) (s : State), s.inputs = .write r v :: rest → r ≠ 0 →
    ∃ t, step s = .next t ∧ t = { s with inputs := rest, txBuf := t.txBuf } ∧
      ∀ k : Fin 8, t.txBuf[k.val] = if r.toNat = 8 + k.val then BitVec.ofNat 8 v.toNat else s.txBuf[k.val]

/-- The Clock and the Bus write `TIME` and `RXFIFO` and nothing else (R32, R36, R69). -/
def Obligations.ClockAndBusWriteOnlyTheirOwn : Prop :=
  ∀ (rest : List Input) (s : State),
    (∀ d, s.inputs = .advance d :: rest →
      ∃ t, step s = .next t ∧ t.time.toNat = (s.time.toNat + d) % 2 ^ 32 ∧
        t = { s with inputs := rest, time := t.time }) ∧
    (∀ b, s.inputs = .busByte b :: rest →
      step s = .next { s with inputs := rest, rxFifo := s.rxFifo ++ [b] })

/-- The registers the host reads, by number (R37); reserved numbers and `CMD` read 0. -/
def Obligations.RegisterMap : Prop :=
  ∀ s : State,
    (∀ r : BitVec 6, r = 0 ∨ r = 7 ∨ (25 ≤ r.toNat ∧ r.toNat ≤ 31) ∨ 50 ≤ r.toNat → readReg r s = 0) ∧
    (∀ k : Fin 8, (readReg (BitVec.ofNat 6 (8 + k.val)) s).toNat = (s.txBuf[k.val]).toNat) ∧
    (∀ k : Fin 9, (readReg (BitVec.ofNat 6 (16 + k.val)) s).toNat = rxByte s k.val) ∧
    [2, 3, 4, 5, 6].map (fun r => (readReg r s).toNat) =
      [s.time.toNat, s.baud.toNat, s.byteTime.toNat, s.fto.toNat, s.rxCount.toNat] ∧
    [32, 33, 34, 35, 36, 37, 38, 39].map (fun r => (readReg r s).toNat) =
      [s.state.code.toNat, s.tLast.toNat, s.cand.toNat, s.devIdx.toNat, s.lastIo.toNat, s.cfg.toNat, s.act.toNat,
        s.battType.toNat] ∧
    [40, 41, 42, 43, 44, 45, 46, 47, 48, 49].map (fun r => (readReg r s).toNat) =
      [s.snap.vRaw.toNat, s.snap.iRaw.toNat, s.snap.tRaw.toNat, s.snap.socRaw.toNat, s.snap.sohRaw.toNat,
        s.snap.ocvRaw.toNat, s.snap.riRaw.toNat, s.snap.capAvailRaw.toNat, s.snap.capDisRaw.toNat,
        s.snap.capNomRaw.toNat]

/-- The bits of `STATUS`; bits 31:9 read 0 (R27). -/
def Obligations.StatusBits : Prop :=
  ∀ s : State,
    (readReg 1 s).toNat =
      s.status.opened.toNat + 2 * s.status.txen.toNat + 4 * s.status.available.toNat +
        8 * s.status.calibrated.toNat + 16 * s.status.errFlag.toNat + 32 * s.status.cfgPending.toNat +
        64 * s.status.highSpeed.toNat + 128 * s.status.rxCkOk.toNat + 256 * s.status.cmdErr.toNat

/-- Nothing but a command changes `STATUS` or a snapshot register (R62). -/
def Obligations.OnlyCommandsChangeStatusAndSnapshot : Prop :=
  ∀ s t : State, step s = .next t → (∀ w rest, s.inputs ≠ .write 0 w :: rest) →
    t.status = s.status ∧ t.snap = s.snap ∧ t.wire = s.wire

/-- `STATE` changes only inside a TICK command (R26). -/
def Obligations.StateChangesOnlyInTick : Prop :=
  ∀ s t : State, step s = .next t → t.state ≠ s.state →
    ∃ w rest, s.inputs = .write 0 w :: rest ∧ decodeCmd w = .tick

/-- `WIRE` only grows (R35). -/
def Obligations.WireOnlyGrows : Prop :=
  ∀ s t : State, step s = .next t → ∃ events, t.wire = s.wire ++ events

/-- DP never reads or writes `TXBUF` (R21). -/
def Obligations.DpIgnoresTxbuf : Prop :=
  ∀ (s : State) (v : Vector Byte 8), ∃ t, exec .tick s = .next t ∧ t.txBuf = s.txBuf ∧
    exec .tick { s with txBuf := v } = .next { t with txBuf := v }

/-- DP does not branch on `RXCKOK` (R121, R232): two states that differ only in it go to states that differ at most in
it. -/
def Obligations.DpIgnoresRxckok : Prop :=
  ∀ (s : State) (b : Bool), ∃ t t', exec .tick s = .next t ∧
    exec .tick { s with status := { s.status with rxCkOk := b } } = .next t' ∧
    { t with status := { t.status with rxCkOk := false } } = { t' with status := { t'.status with rxCkOk := false } }

/-- No step stops: every command, legal or not, in every state of DP, has a next state (R69, R230). -/
def Obligations.EveryStepHasANextState : Prop :=
  ∀ s : State, ∃ t, step s = .next t

/-- After reset `STATE` is `ST_NODEV`, every register reads 0 and `WIRE` is empty (R41). -/
def Obligations.ResetRegistersReadZero : Prop :=
  State.reset.state = .nodev ∧ (∀ r : BitVec 6, readReg r State.reset = 0) ∧ State.reset.wire = []

/-- The invariant holds at reset. -/
def Obligations.InvariantHoldsAtReset : Prop := State.reset.Inv Config.env

/-- Every step keeps the invariant of `State.Inv` (R33, R70, R125, R186, R188). -/
def Obligations.EveryStepKeepsTheInvariant : Prop :=
  ∀ s t : State, s.Inv Config.env → step s = .next t → t.Inv Config.env
end

