-- ==== Sys2Proof/Laws/Frames.lean ====
section
/-! SUPPORT. Small lemmas about the checksum step and the lists of events a frame and a header are. -/

namespace Sys2Proof.Machine

theorem wsum_nil : wsum [] = 0 := rfl

/-- The sum is a fold, so a byte more is one step more. -/
theorem wsum_append_singleton (l : List Byte) (b : Byte) : wsum (l ++ [b]) = wsumStep (wsum l) b := by
  simp [wsum, List.foldl_append]

/-- The wrap step stays in a byte (R112 law 1). -/
theorem wsumStep_le {acc : Nat} (h : acc ≤ 255) (b : Byte) : wsumStep acc b ≤ 255 := by
  have := b.isLt
  unfold wsumStep
  split <;> omega

/-- Two checksum covers differ only in the address byte (R85). -/
theorem cover_eq (p : Params) (id : FrameId) (pver : BitVec 2) :
    cover p id pver = [] ∨ cover p id pver = [pid p id] := by
  unfold cover
  split <;> simp

theorem sendEvents_eq (p : Params) (id : FrameId) (payload : List Byte) (pver : BitVec 2) :
    sendEvents p id payload pver =
      [.pinTx, .brk, .byte p.sync, .byte (pid p id)] ++ payload.map .byte ++
        [.byte (frameCks p id payload pver), .pinRx] := by
  simp [sendEvents, headerSymbols]

theorem recvEvents_eq (p : Params) (id : FrameId) :
    recvEvents p id = [.flush, .pinTx, .brk, .byte p.sync, .byte (pid p id), .pinRx] := by
  simp [recvEvents, headerSymbols]

end Sys2Proof.Machine
end

