-- ==== Sys2Proof/Laws/State.lean ====
section
/-! SUPPORT. One lemma for each field of State and each of the small operations that update it, so that no proof
unfolds a record update. -/

namespace Sys2Proof.Machine

@[simp] theorem refuse_txBuf (s : State) : (refuse s).txBuf = s.txBuf := rfl
@[simp] theorem refuse_rxBuf (s : State) : (refuse s).rxBuf = s.rxBuf := rfl
@[simp] theorem refuse_snap (s : State) : (refuse s).snap = s.snap := rfl
@[simp] theorem refuse_state (s : State) : (refuse s).state = s.state := rfl
@[simp] theorem refuse_status (s : State) : (refuse s).status = { s.status with cmdErr := true } := rfl
@[simp] theorem refuse_baud (s : State) : (refuse s).baud = s.baud := rfl
@[simp] theorem refuse_byteTime (s : State) : (refuse s).byteTime = s.byteTime := rfl
@[simp] theorem refuse_fto (s : State) : (refuse s).fto = s.fto := rfl
@[simp] theorem refuse_rxCount (s : State) : (refuse s).rxCount = s.rxCount := rfl
@[simp] theorem refuse_tLast (s : State) : (refuse s).tLast = s.tLast := rfl
@[simp] theorem refuse_time (s : State) : (refuse s).time = s.time := rfl
@[simp] theorem refuse_cand (s : State) : (refuse s).cand = s.cand := rfl
@[simp] theorem refuse_devIdx (s : State) : (refuse s).devIdx = s.devIdx := rfl
@[simp] theorem refuse_lastIo (s : State) : (refuse s).lastIo = s.lastIo := rfl
@[simp] theorem refuse_cfg (s : State) : (refuse s).cfg = s.cfg := rfl
@[simp] theorem refuse_act (s : State) : (refuse s).act = s.act := rfl
@[simp] theorem refuse_battType (s : State) : (refuse s).battType = s.battType := rfl
@[simp] theorem refuse_wire (s : State) : (refuse s).wire = s.wire := rfl
@[simp] theorem refuse_rxFifo (s : State) : (refuse s).rxFifo = s.rxFifo := rfl
@[simp] theorem refuse_inputs (s : State) : (refuse s).inputs = s.inputs := rfl
@[simp] theorem refuse_draws (s : State) : (refuse s).draws = s.draws := rfl
@[simp] theorem refuse_readData (s : State) : (refuse s).readData = s.readData := rfl

@[simp] theorem pinTx_txBuf (s : State) : (pinTx s).txBuf = s.txBuf := rfl
@[simp] theorem pinTx_rxBuf (s : State) : (pinTx s).rxBuf = s.rxBuf := rfl
@[simp] theorem pinTx_snap (s : State) : (pinTx s).snap = s.snap := rfl
@[simp] theorem pinTx_state (s : State) : (pinTx s).state = s.state := rfl
@[simp] theorem pinTx_status (s : State) : (pinTx s).status = { s.status with txen := true } := rfl
@[simp] theorem pinTx_baud (s : State) : (pinTx s).baud = s.baud := rfl
@[simp] theorem pinTx_byteTime (s : State) : (pinTx s).byteTime = s.byteTime := rfl
@[simp] theorem pinTx_fto (s : State) : (pinTx s).fto = s.fto := rfl
@[simp] theorem pinTx_rxCount (s : State) : (pinTx s).rxCount = s.rxCount := rfl
@[simp] theorem pinTx_tLast (s : State) : (pinTx s).tLast = s.tLast := rfl
@[simp] theorem pinTx_time (s : State) : (pinTx s).time = s.time := rfl
@[simp] theorem pinTx_cand (s : State) : (pinTx s).cand = s.cand := rfl
@[simp] theorem pinTx_devIdx (s : State) : (pinTx s).devIdx = s.devIdx := rfl
@[simp] theorem pinTx_lastIo (s : State) : (pinTx s).lastIo = s.lastIo := rfl
@[simp] theorem pinTx_cfg (s : State) : (pinTx s).cfg = s.cfg := rfl
@[simp] theorem pinTx_act (s : State) : (pinTx s).act = s.act := rfl
@[simp] theorem pinTx_battType (s : State) : (pinTx s).battType = s.battType := rfl
@[simp] theorem pinTx_wire (s : State) : (pinTx s).wire = s.wire ++ [.pinTx] := rfl
@[simp] theorem pinTx_rxFifo (s : State) : (pinTx s).rxFifo = s.rxFifo := rfl
@[simp] theorem pinTx_inputs (s : State) : (pinTx s).inputs = s.inputs := rfl
@[simp] theorem pinTx_draws (s : State) : (pinTx s).draws = s.draws := rfl
@[simp] theorem pinTx_readData (s : State) : (pinTx s).readData = s.readData := rfl

@[simp] theorem pinRx_txBuf (s : State) : (pinRx s).txBuf = s.txBuf := rfl
@[simp] theorem pinRx_rxBuf (s : State) : (pinRx s).rxBuf = s.rxBuf := rfl
@[simp] theorem pinRx_snap (s : State) : (pinRx s).snap = s.snap := rfl
@[simp] theorem pinRx_state (s : State) : (pinRx s).state = s.state := rfl
@[simp] theorem pinRx_status (s : State) : (pinRx s).status = { s.status with txen := false } := rfl
@[simp] theorem pinRx_baud (s : State) : (pinRx s).baud = s.baud := rfl
@[simp] theorem pinRx_byteTime (s : State) : (pinRx s).byteTime = s.byteTime := rfl
@[simp] theorem pinRx_fto (s : State) : (pinRx s).fto = s.fto := rfl
@[simp] theorem pinRx_rxCount (s : State) : (pinRx s).rxCount = s.rxCount := rfl
@[simp] theorem pinRx_tLast (s : State) : (pinRx s).tLast = s.tLast := rfl
@[simp] theorem pinRx_time (s : State) : (pinRx s).time = s.time := rfl
@[simp] theorem pinRx_cand (s : State) : (pinRx s).cand = s.cand := rfl
@[simp] theorem pinRx_devIdx (s : State) : (pinRx s).devIdx = s.devIdx := rfl
@[simp] theorem pinRx_lastIo (s : State) : (pinRx s).lastIo = s.lastIo := rfl
@[simp] theorem pinRx_cfg (s : State) : (pinRx s).cfg = s.cfg := rfl
@[simp] theorem pinRx_act (s : State) : (pinRx s).act = s.act := rfl
@[simp] theorem pinRx_battType (s : State) : (pinRx s).battType = s.battType := rfl
@[simp] theorem pinRx_wire (s : State) : (pinRx s).wire = s.wire ++ [.pinRx] := rfl
@[simp] theorem pinRx_rxFifo (s : State) : (pinRx s).rxFifo = s.rxFifo := rfl
@[simp] theorem pinRx_inputs (s : State) : (pinRx s).inputs = s.inputs := rfl
@[simp] theorem pinRx_draws (s : State) : (pinRx s).draws = s.draws := rfl
@[simp] theorem pinRx_readData (s : State) : (pinRx s).readData = s.readData := rfl

@[simp] theorem chBreak_txBuf (s : State) : (chBreak s).txBuf = s.txBuf := rfl
@[simp] theorem chBreak_rxBuf (s : State) : (chBreak s).rxBuf = s.rxBuf := rfl
@[simp] theorem chBreak_snap (s : State) : (chBreak s).snap = s.snap := rfl
@[simp] theorem chBreak_state (s : State) : (chBreak s).state = s.state := rfl
@[simp] theorem chBreak_status (s : State) : (chBreak s).status = s.status := rfl
@[simp] theorem chBreak_baud (s : State) : (chBreak s).baud = s.baud := rfl
@[simp] theorem chBreak_byteTime (s : State) : (chBreak s).byteTime = s.byteTime := rfl
@[simp] theorem chBreak_fto (s : State) : (chBreak s).fto = s.fto := rfl
@[simp] theorem chBreak_rxCount (s : State) : (chBreak s).rxCount = s.rxCount := rfl
@[simp] theorem chBreak_tLast (s : State) : (chBreak s).tLast = s.tLast := rfl
@[simp] theorem chBreak_time (s : State) : (chBreak s).time = s.time := rfl
@[simp] theorem chBreak_cand (s : State) : (chBreak s).cand = s.cand := rfl
@[simp] theorem chBreak_devIdx (s : State) : (chBreak s).devIdx = s.devIdx := rfl
@[simp] theorem chBreak_lastIo (s : State) : (chBreak s).lastIo = s.lastIo := rfl
@[simp] theorem chBreak_cfg (s : State) : (chBreak s).cfg = s.cfg := rfl
@[simp] theorem chBreak_act (s : State) : (chBreak s).act = s.act := rfl
@[simp] theorem chBreak_battType (s : State) : (chBreak s).battType = s.battType := rfl
@[simp] theorem chBreak_wire (s : State) : (chBreak s).wire = s.wire ++ [.brk] := rfl
@[simp] theorem chBreak_rxFifo (s : State) : (chBreak s).rxFifo = s.rxFifo := rfl
@[simp] theorem chBreak_inputs (s : State) : (chBreak s).inputs = s.inputs := rfl
@[simp] theorem chBreak_draws (s : State) : (chBreak s).draws = s.draws := rfl
@[simp] theorem chBreak_readData (s : State) : (chBreak s).readData = s.readData := rfl

@[simp] theorem chWrite_txBuf (b : Byte) (s : State) : (chWrite b s).txBuf = s.txBuf := rfl
@[simp] theorem chWrite_rxBuf (b : Byte) (s : State) : (chWrite b s).rxBuf = s.rxBuf := rfl
@[simp] theorem chWrite_snap (b : Byte) (s : State) : (chWrite b s).snap = s.snap := rfl
@[simp] theorem chWrite_state (b : Byte) (s : State) : (chWrite b s).state = s.state := rfl
@[simp] theorem chWrite_status (b : Byte) (s : State) : (chWrite b s).status = s.status := rfl
@[simp] theorem chWrite_baud (b : Byte) (s : State) : (chWrite b s).baud = s.baud := rfl
@[simp] theorem chWrite_byteTime (b : Byte) (s : State) : (chWrite b s).byteTime = s.byteTime := rfl
@[simp] theorem chWrite_fto (b : Byte) (s : State) : (chWrite b s).fto = s.fto := rfl
@[simp] theorem chWrite_rxCount (b : Byte) (s : State) : (chWrite b s).rxCount = s.rxCount := rfl
@[simp] theorem chWrite_tLast (b : Byte) (s : State) : (chWrite b s).tLast = s.tLast := rfl
@[simp] theorem chWrite_time (b : Byte) (s : State) : (chWrite b s).time = s.time := rfl
@[simp] theorem chWrite_cand (b : Byte) (s : State) : (chWrite b s).cand = s.cand := rfl
@[simp] theorem chWrite_devIdx (b : Byte) (s : State) : (chWrite b s).devIdx = s.devIdx := rfl
@[simp] theorem chWrite_lastIo (b : Byte) (s : State) : (chWrite b s).lastIo = s.lastIo := rfl
@[simp] theorem chWrite_cfg (b : Byte) (s : State) : (chWrite b s).cfg = s.cfg := rfl
@[simp] theorem chWrite_act (b : Byte) (s : State) : (chWrite b s).act = s.act := rfl
@[simp] theorem chWrite_battType (b : Byte) (s : State) : (chWrite b s).battType = s.battType := rfl
@[simp] theorem chWrite_wire (b : Byte) (s : State) : (chWrite b s).wire = s.wire ++ [.byte b] := rfl
@[simp] theorem chWrite_rxFifo (b : Byte) (s : State) : (chWrite b s).rxFifo = s.rxFifo := rfl
@[simp] theorem chWrite_inputs (b : Byte) (s : State) : (chWrite b s).inputs = s.inputs := rfl
@[simp] theorem chWrite_draws (b : Byte) (s : State) : (chWrite b s).draws = s.draws := rfl
@[simp] theorem chWrite_readData (b : Byte) (s : State) : (chWrite b s).readData = s.readData := rfl

@[simp] theorem chFlush_txBuf (s : State) : (chFlush s).txBuf = s.txBuf := rfl
@[simp] theorem chFlush_rxBuf (s : State) : (chFlush s).rxBuf = s.rxBuf := rfl
@[simp] theorem chFlush_snap (s : State) : (chFlush s).snap = s.snap := rfl
@[simp] theorem chFlush_state (s : State) : (chFlush s).state = s.state := rfl
@[simp] theorem chFlush_status (s : State) : (chFlush s).status = s.status := rfl
@[simp] theorem chFlush_baud (s : State) : (chFlush s).baud = s.baud := rfl
@[simp] theorem chFlush_byteTime (s : State) : (chFlush s).byteTime = s.byteTime := rfl
@[simp] theorem chFlush_fto (s : State) : (chFlush s).fto = s.fto := rfl
@[simp] theorem chFlush_rxCount (s : State) : (chFlush s).rxCount = s.rxCount := rfl
@[simp] theorem chFlush_tLast (s : State) : (chFlush s).tLast = s.tLast := rfl
@[simp] theorem chFlush_time (s : State) : (chFlush s).time = s.time := rfl
@[simp] theorem chFlush_cand (s : State) : (chFlush s).cand = s.cand := rfl
@[simp] theorem chFlush_devIdx (s : State) : (chFlush s).devIdx = s.devIdx := rfl
@[simp] theorem chFlush_lastIo (s : State) : (chFlush s).lastIo = s.lastIo := rfl
@[simp] theorem chFlush_cfg (s : State) : (chFlush s).cfg = s.cfg := rfl
@[simp] theorem chFlush_act (s : State) : (chFlush s).act = s.act := rfl
@[simp] theorem chFlush_battType (s : State) : (chFlush s).battType = s.battType := rfl
@[simp] theorem chFlush_wire (s : State) : (chFlush s).wire = s.wire ++ [.flush] := rfl
@[simp] theorem chFlush_rxFifo (s : State) : (chFlush s).rxFifo = [] := rfl
@[simp] theorem chFlush_inputs (s : State) : (chFlush s).inputs = s.inputs := rfl
@[simp] theorem chFlush_draws (s : State) : (chFlush s).draws = s.draws := rfl
@[simp] theorem chFlush_readData (s : State) : (chFlush s).readData = s.readData := rfl

@[simp] theorem waitDrawn_txBuf (d : Nat) (s : State) : (waitDrawn d s).txBuf = s.txBuf := rfl
@[simp] theorem waitDrawn_rxBuf (d : Nat) (s : State) : (waitDrawn d s).rxBuf = s.rxBuf := rfl
@[simp] theorem waitDrawn_snap (d : Nat) (s : State) : (waitDrawn d s).snap = s.snap := rfl
@[simp] theorem waitDrawn_state (d : Nat) (s : State) : (waitDrawn d s).state = s.state := rfl
@[simp] theorem waitDrawn_status (d : Nat) (s : State) : (waitDrawn d s).status = s.status := rfl
@[simp] theorem waitDrawn_baud (d : Nat) (s : State) : (waitDrawn d s).baud = s.baud := rfl
@[simp] theorem waitDrawn_byteTime (d : Nat) (s : State) : (waitDrawn d s).byteTime = s.byteTime := rfl
@[simp] theorem waitDrawn_fto (d : Nat) (s : State) : (waitDrawn d s).fto = s.fto := rfl
@[simp] theorem waitDrawn_rxCount (d : Nat) (s : State) : (waitDrawn d s).rxCount = s.rxCount := rfl
@[simp] theorem waitDrawn_tLast (d : Nat) (s : State) : (waitDrawn d s).tLast = s.tLast := rfl
@[simp] theorem waitDrawn_time (d : Nat) (s : State) : (waitDrawn d s).time = s.time + BitVec.ofNat 32 d := rfl
@[simp] theorem waitDrawn_cand (d : Nat) (s : State) : (waitDrawn d s).cand = s.cand := rfl
@[simp] theorem waitDrawn_devIdx (d : Nat) (s : State) : (waitDrawn d s).devIdx = s.devIdx := rfl
@[simp] theorem waitDrawn_lastIo (d : Nat) (s : State) : (waitDrawn d s).lastIo = s.lastIo := rfl
@[simp] theorem waitDrawn_cfg (d : Nat) (s : State) : (waitDrawn d s).cfg = s.cfg := rfl
@[simp] theorem waitDrawn_act (d : Nat) (s : State) : (waitDrawn d s).act = s.act := rfl
@[simp] theorem waitDrawn_battType (d : Nat) (s : State) : (waitDrawn d s).battType = s.battType := rfl
@[simp] theorem waitDrawn_wire (d : Nat) (s : State) : (waitDrawn d s).wire = s.wire := rfl
@[simp] theorem waitDrawn_rxFifo (d : Nat) (s : State) : (waitDrawn d s).rxFifo = s.rxFifo := rfl
@[simp] theorem waitDrawn_inputs (d : Nat) (s : State) : (waitDrawn d s).inputs = s.inputs := rfl
@[simp] theorem waitDrawn_draws (d : Nat) (s : State) : (waitDrawn d s).draws = s.draws + 1 := rfl
@[simp] theorem waitDrawn_readData (d : Nat) (s : State) : (waitDrawn d s).readData = s.readData := rfl

@[simp] theorem hostRead_txBuf (r : BitVec 6) (s : State) : (hostRead r s).txBuf = s.txBuf := rfl
@[simp] theorem hostRead_rxBuf (r : BitVec 6) (s : State) : (hostRead r s).rxBuf = s.rxBuf := rfl
@[simp] theorem hostRead_snap (r : BitVec 6) (s : State) : (hostRead r s).snap = s.snap := rfl
@[simp] theorem hostRead_state (r : BitVec 6) (s : State) : (hostRead r s).state = s.state := rfl
@[simp] theorem hostRead_status (r : BitVec 6) (s : State) : (hostRead r s).status = s.status := rfl
@[simp] theorem hostRead_baud (r : BitVec 6) (s : State) : (hostRead r s).baud = s.baud := rfl
@[simp] theorem hostRead_byteTime (r : BitVec 6) (s : State) : (hostRead r s).byteTime = s.byteTime := rfl
@[simp] theorem hostRead_fto (r : BitVec 6) (s : State) : (hostRead r s).fto = s.fto := rfl
@[simp] theorem hostRead_rxCount (r : BitVec 6) (s : State) : (hostRead r s).rxCount = s.rxCount := rfl
@[simp] theorem hostRead_tLast (r : BitVec 6) (s : State) : (hostRead r s).tLast = s.tLast := rfl
@[simp] theorem hostRead_time (r : BitVec 6) (s : State) : (hostRead r s).time = s.time := rfl
@[simp] theorem hostRead_cand (r : BitVec 6) (s : State) : (hostRead r s).cand = s.cand := rfl
@[simp] theorem hostRead_devIdx (r : BitVec 6) (s : State) : (hostRead r s).devIdx = s.devIdx := rfl
@[simp] theorem hostRead_lastIo (r : BitVec 6) (s : State) : (hostRead r s).lastIo = s.lastIo := rfl
@[simp] theorem hostRead_cfg (r : BitVec 6) (s : State) : (hostRead r s).cfg = s.cfg := rfl
@[simp] theorem hostRead_act (r : BitVec 6) (s : State) : (hostRead r s).act = s.act := rfl
@[simp] theorem hostRead_battType (r : BitVec 6) (s : State) : (hostRead r s).battType = s.battType := rfl
@[simp] theorem hostRead_wire (r : BitVec 6) (s : State) : (hostRead r s).wire = s.wire := rfl
@[simp] theorem hostRead_rxFifo (r : BitVec 6) (s : State) : (hostRead r s).rxFifo = s.rxFifo := rfl
@[simp] theorem hostRead_inputs (r : BitVec 6) (s : State) : (hostRead r s).inputs = s.inputs := rfl
@[simp] theorem hostRead_draws (r : BitVec 6) (s : State) : (hostRead r s).draws = s.draws := rfl
@[simp] theorem hostRead_readData (r : BitVec 6) (s : State) : (hostRead r s).readData = readReg r s := rfl

@[simp] theorem clockAdvance_txBuf (d : Nat) (s : State) : (clockAdvance d s).txBuf = s.txBuf := rfl
@[simp] theorem clockAdvance_rxBuf (d : Nat) (s : State) : (clockAdvance d s).rxBuf = s.rxBuf := rfl
@[simp] theorem clockAdvance_snap (d : Nat) (s : State) : (clockAdvance d s).snap = s.snap := rfl
@[simp] theorem clockAdvance_state (d : Nat) (s : State) : (clockAdvance d s).state = s.state := rfl
@[simp] theorem clockAdvance_status (d : Nat) (s : State) : (clockAdvance d s).status = s.status := rfl
@[simp] theorem clockAdvance_baud (d : Nat) (s : State) : (clockAdvance d s).baud = s.baud := rfl
@[simp] theorem clockAdvance_byteTime (d : Nat) (s : State) : (clockAdvance d s).byteTime = s.byteTime := rfl
@[simp] theorem clockAdvance_fto (d : Nat) (s : State) : (clockAdvance d s).fto = s.fto := rfl
@[simp] theorem clockAdvance_rxCount (d : Nat) (s : State) : (clockAdvance d s).rxCount = s.rxCount := rfl
@[simp] theorem clockAdvance_tLast (d : Nat) (s : State) : (clockAdvance d s).tLast = s.tLast := rfl
@[simp] theorem clockAdvance_time (d : Nat) (s : State) : (clockAdvance d s).time = s.time + BitVec.ofNat 32 d := rfl
@[simp] theorem clockAdvance_cand (d : Nat) (s : State) : (clockAdvance d s).cand = s.cand := rfl
@[simp] theorem clockAdvance_devIdx (d : Nat) (s : State) : (clockAdvance d s).devIdx = s.devIdx := rfl
@[simp] theorem clockAdvance_lastIo (d : Nat) (s : State) : (clockAdvance d s).lastIo = s.lastIo := rfl
@[simp] theorem clockAdvance_cfg (d : Nat) (s : State) : (clockAdvance d s).cfg = s.cfg := rfl
@[simp] theorem clockAdvance_act (d : Nat) (s : State) : (clockAdvance d s).act = s.act := rfl
@[simp] theorem clockAdvance_battType (d : Nat) (s : State) : (clockAdvance d s).battType = s.battType := rfl
@[simp] theorem clockAdvance_wire (d : Nat) (s : State) : (clockAdvance d s).wire = s.wire := rfl
@[simp] theorem clockAdvance_rxFifo (d : Nat) (s : State) : (clockAdvance d s).rxFifo = s.rxFifo := rfl
@[simp] theorem clockAdvance_inputs (d : Nat) (s : State) : (clockAdvance d s).inputs = s.inputs := rfl
@[simp] theorem clockAdvance_draws (d : Nat) (s : State) : (clockAdvance d s).draws = s.draws := rfl
@[simp] theorem clockAdvance_readData (d : Nat) (s : State) : (clockAdvance d s).readData = s.readData := rfl

@[simp] theorem busAppend_txBuf (b : Byte) (s : State) : (busAppend b s).txBuf = s.txBuf := rfl
@[simp] theorem busAppend_rxBuf (b : Byte) (s : State) : (busAppend b s).rxBuf = s.rxBuf := rfl
@[simp] theorem busAppend_snap (b : Byte) (s : State) : (busAppend b s).snap = s.snap := rfl
@[simp] theorem busAppend_state (b : Byte) (s : State) : (busAppend b s).state = s.state := rfl
@[simp] theorem busAppend_status (b : Byte) (s : State) : (busAppend b s).status = s.status := rfl
@[simp] theorem busAppend_baud (b : Byte) (s : State) : (busAppend b s).baud = s.baud := rfl
@[simp] theorem busAppend_byteTime (b : Byte) (s : State) : (busAppend b s).byteTime = s.byteTime := rfl
@[simp] theorem busAppend_fto (b : Byte) (s : State) : (busAppend b s).fto = s.fto := rfl
@[simp] theorem busAppend_rxCount (b : Byte) (s : State) : (busAppend b s).rxCount = s.rxCount := rfl
@[simp] theorem busAppend_tLast (b : Byte) (s : State) : (busAppend b s).tLast = s.tLast := rfl
@[simp] theorem busAppend_time (b : Byte) (s : State) : (busAppend b s).time = s.time := rfl
@[simp] theorem busAppend_cand (b : Byte) (s : State) : (busAppend b s).cand = s.cand := rfl
@[simp] theorem busAppend_devIdx (b : Byte) (s : State) : (busAppend b s).devIdx = s.devIdx := rfl
@[simp] theorem busAppend_lastIo (b : Byte) (s : State) : (busAppend b s).lastIo = s.lastIo := rfl
@[simp] theorem busAppend_cfg (b : Byte) (s : State) : (busAppend b s).cfg = s.cfg := rfl
@[simp] theorem busAppend_act (b : Byte) (s : State) : (busAppend b s).act = s.act := rfl
@[simp] theorem busAppend_battType (b : Byte) (s : State) : (busAppend b s).battType = s.battType := rfl
@[simp] theorem busAppend_wire (b : Byte) (s : State) : (busAppend b s).wire = s.wire := rfl
@[simp] theorem busAppend_rxFifo (b : Byte) (s : State) : (busAppend b s).rxFifo = s.rxFifo ++ [b] := rfl
@[simp] theorem busAppend_inputs (b : Byte) (s : State) : (busAppend b s).inputs = s.inputs := rfl
@[simp] theorem busAppend_draws (b : Byte) (s : State) : (busAppend b s).draws = s.draws := rfl
@[simp] theorem busAppend_readData (b : Byte) (s : State) : (busAppend b s).readData = s.readData := rfl

end Sys2Proof.Machine
end

