-- ==== Sys2Proof/Laws/Ops.lean ====
section
/-! SUPPORT. For each shared operation, once, everything it can do: a proof cites these and does not unfold the
operation. -/

namespace Sys2Proof.Machine

/-! ### Configuration -/

@[simp] theorem env_params : Config.env.params = Config.params := rfl
@[simp] theorem env_busAnswer : Config.env.busAnswer = Config.busAnswer := rfl
@[simp] theorem env_baudOk : Config.env.baudOk = Config.baudOk := rfl

/-- The machine's parameters meet R7's constraints. -/
theorem config_params_ok : Config.params.Ok := by
  refine ⟨by simp [Config.params], ?_, ?_, ?_, ?_, ?_, ?_, ?_, ?_, ?_, ?_, ?_⟩
  all_goals simp [Config.params]
  all_goals omega

/-- `len` at most 8, as a statement about numbers. -/
theorem lenOk_iff (len : BitVec 4) : lenOk len = true ↔ len.toNat ≤ 8 := decide_eq_true_iff

/-! ### Time drawn by the environment -/

theorem sendDelay_le (E : Env) (s : State) : sendDelay E s ≤ E.params.tSendMax :=
  Nat.lt_succ_iff.mp (Nat.mod_lt _ (Nat.succ_pos _))

theorem recvDelay_le (E : Env) (s : State) : recvDelay E s ≤ recvBound E s :=
  Nat.lt_succ_iff.mp (Nat.mod_lt _ (Nat.succ_pos _))

/-! ### The transmit sequence -/

theorem sendHeader_eq (E : Env) (id : FrameId) (s : State) :
    sendHeader E id s = { s with wire := s.wire ++ headerSymbols E.params id } := by
  simp [sendHeader, chWrite, chBreak, headerSymbols]

theorem chWriteAll_eq (bytes : List Byte) (s : State) :
    chWriteAll bytes s = { s with wire := s.wire ++ bytes.map .byte } := by
  induction bytes generalizing s with
  | nil => simp [chWriteAll]
  | cons b bs ih =>
    have : chWriteAll (b :: bs) s = chWriteAll bs (chWrite b s) := rfl
    rw [this, ih]
    simp [chWrite]

/-- `BT.send` whole: the pin is back, the frame is in `WIRE`, some time has passed, nothing else changed (R117). -/
theorem btSend_eq (E : Env) (id : FrameId) (payload : List Byte) (pver : BitVec 2) (s : State) :
    btSend E id payload pver s =
      { s with
        status := { s.status with txen := false }
        wire := s.wire ++ sendEvents E.params id payload pver
        time := s.time + BitVec.ofNat 32 (sendDelay E s)
        draws := s.draws + 1 } := by
  simp [btSend, sendHeader_eq, chWriteAll_eq, pinRx, pinTx, chWrite, waitDrawn, sendEvents]

/-! ### The receive sequence -/

theorem recvHeader_eq (E : Env) (id : FrameId) (s : State) :
    recvHeader E id s =
      { s with
        status := { s.status with txen := false }
        wire := s.wire ++ recvEvents E.params id
        rxFifo := [] } := by
  simp [recvHeader, sendHeader_eq, pinRx, pinTx, chFlush, recvEvents]

/-- The inner loop takes the first `room` bytes of the FIFO. -/
theorem drain_eq (room : Nat) (fifo got : List Byte) :
    drain room fifo got = (got ++ fifo.take room, fifo.drop room) := by
  induction room generalizing fifo got with
  | zero => simp [drain]
  | succ n ih => cases fifo <;> simp [drain, ih]

/-- `BT.recv` whole (R119): the registers it writes, and nothing else. -/
theorem btRecv_eq (E : Env) (id : FrameId) (len : Nat) (pver : BitVec 2) (s : State) :
    btRecv E id len pver s =
      { s with
        rxBuf := rxFilled E s.draws (recvPoll E id len s).1
        rxFifo := (recvPoll E id len s).2
        rxCount := BitVec.ofNat 4 (recvPoll E id len s).1.length
        status := { s.status with
          txen := false
          rxCkOk := rxCheck E.params id len pver (recvPoll E id len s).1 }
        wire := s.wire ++ recvEvents E.params id
        time := s.time + BitVec.ofNat 32 (recvDelay E s)
        draws := s.draws + 1 } := by
  simp [btRecv, recvHeader_eq, waitDrawn]

/-- The loop a receive runs, as a function of the state before it. -/
theorem recvPoll_eq (E : Env) (id : FrameId) (len : Nat) (s : State) :
    recvPoll E id len s =
      pollLoop s.fto.toNat E.params.pollStep (len + 1) (s.fto.toNat + 2) 0 []
        (E.busAnswer s.draws (s.wire ++ recvEvents E.params id)) [] := by
  simp [recvPoll, recvHeader_eq]

/-- One poll of the receive loop (R119). -/
theorem pollLoop_succ (fto pollStep want fuel waited : Nat) (fifo : List Byte) (coming : List (Nat × Byte))
    (got : List Byte) :
    pollLoop fto pollStep want (fuel + 1) waited fifo coming got =
      if (drain (want - got.length) (fifo ++ arrived waited coming) got).1.length = want then
        drain (want - got.length) (fifo ++ arrived waited coming) got
      else if fto < waited then drain (want - got.length) (fifo ++ arrived waited coming) got
      else pollLoop fto pollStep want fuel (waited + pollStep)
        (drain (want - got.length) (fifo ++ arrived waited coming) got).2 (notArrived waited coming)
        (drain (want - got.length) (fifo ++ arrived waited coming) got).1 := rfl

/-- The loop never holds more bytes than it wants. -/
theorem pollLoop_length_le (fto pollStep want fuel waited : Nat) (fifo : List Byte) (coming : List (Nat × Byte))
    (got : List Byte) (h : got.length ≤ want) :
    (pollLoop fto pollStep want fuel waited fifo coming got).1.length ≤ want := by
  induction fuel generalizing waited fifo coming got with
  | zero => exact h
  | succ n ih =>
    have hd : (drain (want - got.length) (fifo ++ arrived waited coming) got).1.length ≤ want := by
      simp only [drain_eq, List.length_append, List.length_take]
      omega
    simp only [pollLoop]
    split
    · exact hd
    · split
      · exact hd
      · exact ih _ _ _ _ hd

/-- Once there is fuel for every poll up to the timeout, more fuel changes nothing. -/
theorem pollLoop_fuel (fto pollStep want : Nat) (hp : 1 ≤ pollStep) (fuel : Nat) :
    ∀ (waited : Nat) (fifo : List Byte) (coming : List (Nat × Byte)) (got : List Byte),
      fto + 2 ≤ fuel + waited → 1 ≤ fuel →
      pollLoop fto pollStep want (fuel + 1) waited fifo coming got =
        pollLoop fto pollStep want fuel waited fifo coming got := by
  induction fuel with
  | zero => intro _ _ _ _ _ h; omega
  | succ n ih =>
    intro waited fifo coming got h _
    by_cases hw : fto < waited
    · simp [pollLoop, hw]
    · have step := ih (waited + pollStep)
        (drain (want - got.length) (fifo ++ arrived waited coming) got).2 (notArrived waited coming)
        (drain (want - got.length) (fifo ++ arrived waited coming) got).1 (by omega) (by omega)
      rw [pollLoop_succ _ _ _ (n + 1), step, ← pollLoop_succ]

/-- A receive gives at most `len + 1` bytes (R123). -/
theorem recvPoll_length_le (E : Env) (id : FrameId) (len : Nat) (s : State) :
    (recvPoll E id len s).1.length ≤ len + 1 := by
  rw [recvPoll_eq]
  exact pollLoop_length_le _ _ _ _ _ _ _ _ (by simp)

/-- `RXBUFi` holds the i-th byte received (R22). -/
theorem rxFilled_get (E : Env) (draw : Nat) (got : List Byte) (i : Nat) (h9 : i < 9) (hi : i < got.length) :
    (rxFilled E draw got)[i] = got[i] := by
  have : i = 0 ∨ i = 1 ∨ i = 2 ∨ i = 3 ∨ i = 4 ∨ i = 5 ∨ i = 6 ∨ i = 7 ∨ i = 8 := by omega
  rcases this with rfl | rfl | rfl | rfl | rfl | rfl | rfl | rfl | rfl <;> simp [rxFilled, hi]

/-! ### DP's own calls -/

theorem dpSend_open (E : Env) (payload : Vector Byte 8) (s : State) (h : s.status.opened = true) :
    dpSend E payload s = btSend E E.params.diagReqId payload.toList E.params.pverDp s := by
  simp [dpSend, h]

theorem dpSend_closed (E : Env) (payload : Vector Byte 8) (s : State) (h : s.status.opened = false) :
    dpSend E payload s = s := by
  simp [dpSend, h]

theorem dpRecv_open (E : Env) (id : FrameId) (len : Nat) (s : State) (h : s.status.opened = true) (hl : len ≤ 8) :
    dpRecv E id len s =
      { btRecv E id len E.params.pverDp s with lastIo := (btRecv E id len E.params.pverDp s).rxCount } := by
  simp [dpRecv, h, Config.maxPayload, hl]

theorem dpRecv_skipped (E : Env) (id : FrameId) (len : Nat) (s : State)
    (h : ¬(s.status.opened = true ∧ len ≤ 8)) : dpRecv E id len s = { s with lastIo := 0 } := by
  have : (s.status.opened && decide (len ≤ Config.maxPayload)) = false :=
    Bool.eq_false_iff.mpr fun hc => h (by
      obtain ⟨ho, hl⟩ := (Bool.and_eq_true _ _).mp hc
      exact ⟨ho, of_decide_eq_true hl⟩)
  simp [dpRecv, this]

/-! ### The host port -/

theorem writeReg_txBuf (r : BitVec 6) (v : Word32) (s : State) (h : 8 ≤ r.toNat ∧ r.toNat < 16) :
    writeReg r v s = { s with txBuf := s.txBuf.set (r.toNat - 8) (v.setWidth 8) (by omega) } := by
  simp [writeReg, h]

theorem writeReg_ignored (r : BitVec 6) (v : Word32) (s : State) (h : ¬(8 ≤ r.toNat ∧ r.toNat < 16)) :
    writeReg r v s = s := by
  simp [writeReg, h]

end Sys2Proof.Machine
end

