-- ==== Sys2Proof/Laws/PerInstr.lean ====
section
/-! SUPPORT. A family of statements made per instruction, about its encoding: the encoded form has the format and the
fixed bits of its row of spec/opcode_table.json. -/

namespace Sys2Proof.Laws.FixedBits

/-- The row of spec/opcode_table.json as the source writes it: the format, and the value of the fixed bits. A CMD32
word matches when its four low bits are the opcode; the other formats are fixed whole, the address byte in its id. -/
def Matches (c : Code) : Instr → Prop

  | .openBus _ => ∃ w, c = .cmd32 w ∧ w &&& 0x0000000F#32 = 0x00000001#32
  | .send _ _ _ => ∃ w, c = .cmd32 w ∧ w &&& 0x0000000F#32 = 0x00000002#32
  | .recv _ _ _ => ∃ w, c = .cmd32 w ∧ w &&& 0x0000000F#32 = 0x00000003#32
  | .sleep => ∃ w, c = .cmd32 w ∧ w &&& 0x0000000F#32 = 0x00000004#32
  | .tick => ∃ w, c = .cmd32 w ∧ w &&& 0x0000000F#32 = 0x00000005#32
  | .reqcfg _ _ => ∃ w, c = .cmd32 w ∧ w &&& 0x0000000F#32 = 0x00000006#32
  | .seths _ => ∃ w, c = .cmd32 w ∧ w &&& 0x0000000F#32 = 0x00000007#32
  | .reservedOp0 => ∃ w, c = .cmd32 w ∧ w &&& 0x0000000F#32 = 0x00000000#32
  | .reservedOp8 => ∃ w, c = .cmd32 w ∧ w &&& 0x0000000F#32 = 0x00000008#32
  | .reservedOp9 => ∃ w, c = .cmd32 w ∧ w &&& 0x0000000F#32 = 0x00000009#32
  | .reservedOp10 => ∃ w, c = .cmd32 w ∧ w &&& 0x0000000F#32 = 0x0000000A#32
  | .reservedOp11 => ∃ w, c = .cmd32 w ∧ w &&& 0x0000000F#32 = 0x0000000B#32
  | .reservedOp12 => ∃ w, c = .cmd32 w ∧ w &&& 0x0000000F#32 = 0x0000000C#32
  | .reservedOp13 => ∃ w, c = .cmd32 w ∧ w &&& 0x0000000F#32 = 0x0000000D#32
  | .reservedOp14 => ∃ w, c = .cmd32 w ∧ w &&& 0x0000000F#32 = 0x0000000E#32
  | .reservedOp15 => ∃ w, c = .cmd32 w ∧ w &&& 0x0000000F#32 = 0x0000000F#32
  | .stNodev => c = .state4 0x0#4
  | .stReqid => c = .state4 0x1#4
  | .stRspid => c = .state4 0x2#4
  | .stReqbt => c = .state4 0x3#4
  | .stRspbt => c = .state4 0x4#4
  | .stPrep => c = .state4 0x5#4
  | .stRf2 => c = .state4 0x6#4
  | .stRf5 => c = .state4 0x7#4
  | .stRf6 => c = .state4 0x8#4
  | .stPause => c = .state4 0x9#4
  | .stPrepcfg => c = .state4 0xA#4
  | .stWc1 => c = .state4 0xB#4
  | .stWc2 => c = .state4 0xC#4
  | .stWb1 => c = .state4 0xD#4
  | .stWb2 => c = .state4 0xE#4
  | .stUnrecognised => c = .state4 0xF#4
  | .btStandard => c = .btype2 0#2
  | .btGel => c = .btype2 1#2
  | .btAgm => c = .btype2 2#2
  | .btUndefined => c = .btype2 3#2
  | .wireSync => c = .wire8 .sync 0b01010101#8
  | .wirePid id => ∃ b, c = .wire8 .address b ∧ b.extractLsb' 0 6 = id

/-- The encoded form of `i` matches the row of `i`. -/
def Statement (i : Instr) : Prop := Matches (encode i) i

/-- The four low bits of a word that ends in a 4-bit opcode are the opcode. -/
theorem low_nibble (hi : BitVec 28) (op : BitVec 4) : (hi ++ op) &&& 0x0000000F#32 = op.setWidth 32 := by
  apply BitVec.eq_of_toNat_eq
  have h := op.isLt
  rw [BitVec.toNat_and, BitVec.toNat_append, BitVec.toNat_setWidth]
  rw [show (0x0000000F#32).toNat = 2 ^ 4 - 1 from rfl, Nat.and_two_pow_sub_one_eq_mod, Nat.shiftLeft_eq,
    Nat.mul_comm, ← Nat.two_pow_add_eq_or_of_lt h, Nat.mul_add_mod]
  omega

theorem openBus (baud : BitVec 24) : Statement (.openBus baud) := ⟨_, rfl, low_nibble (0#4 ++ baud) 1#4⟩

theorem send (id : FrameId) (len : BitVec 4) (pver : BitVec 2) : Statement (.send id len pver) := ⟨_, rfl, low_nibble (0#16 ++ pver ++ len ++ id) 2#4⟩

theorem recv (id : FrameId) (len : BitVec 4) (pver : BitVec 2) : Statement (.recv id len pver) := ⟨_, rfl, low_nibble (0#16 ++ pver ++ len ++ id) 3#4⟩

theorem sleep : Statement .sleep := ⟨_, rfl, by decide⟩

theorem tick : Statement .tick := ⟨_, rfl, by decide⟩

theorem reqcfg (cap : BitVec 16) (btype : BitVec 2) : Statement (.reqcfg cap btype) := ⟨_, rfl, low_nibble (0#10 ++ btype ++ cap) 6#4⟩

theorem seths (en : BitVec 1) : Statement (.seths en) := ⟨_, rfl, low_nibble (0#27 ++ en) 7#4⟩

theorem reservedOp0 : Statement .reservedOp0 := ⟨_, rfl, by decide⟩

theorem reservedOp8 : Statement .reservedOp8 := ⟨_, rfl, by decide⟩

theorem reservedOp9 : Statement .reservedOp9 := ⟨_, rfl, by decide⟩

theorem reservedOp10 : Statement .reservedOp10 := ⟨_, rfl, by decide⟩

theorem reservedOp11 : Statement .reservedOp11 := ⟨_, rfl, by decide⟩

theorem reservedOp12 : Statement .reservedOp12 := ⟨_, rfl, by decide⟩

theorem reservedOp13 : Statement .reservedOp13 := ⟨_, rfl, by decide⟩

theorem reservedOp14 : Statement .reservedOp14 := ⟨_, rfl, by decide⟩

theorem reservedOp15 : Statement .reservedOp15 := ⟨_, rfl, by decide⟩

theorem stNodev : Statement .stNodev := rfl

theorem stReqid : Statement .stReqid := rfl

theorem stRspid : Statement .stRspid := rfl

theorem stReqbt : Statement .stReqbt := rfl

theorem stRspbt : Statement .stRspbt := rfl

theorem stPrep : Statement .stPrep := rfl

theorem stRf2 : Statement .stRf2 := rfl

theorem stRf5 : Statement .stRf5 := rfl

theorem stRf6 : Statement .stRf6 := rfl

theorem stPause : Statement .stPause := rfl

theorem stPrepcfg : Statement .stPrepcfg := rfl

theorem stWc1 : Statement .stWc1 := rfl

theorem stWc2 : Statement .stWc2 := rfl

theorem stWb1 : Statement .stWb1 := rfl

theorem stWb2 : Statement .stWb2 := rfl

theorem stUnrecognised : Statement .stUnrecognised := rfl

theorem btStandard : Statement .btStandard := rfl

theorem btGel : Statement .btGel := rfl

theorem btAgm : Statement .btAgm := rfl

theorem btUndefined : Statement .btUndefined := rfl

theorem wireSync : Statement .wireSync := rfl

theorem wirePid (id : FrameId) : Statement (.wirePid id) :=
  ⟨_, rfl, by unfold pid; exact BitVec.extractLsb'_append_eq_right⟩

end Sys2Proof.Laws.FixedBits
end

