-- ==== Sys2Proof/Laws/Protocol.lean ====
section
/-! SUPPORT. What DP's guarded calls, an entry action and a TICK can do, said once: a proof about DP takes these apart
and does not unfold the rules of the states. -/

namespace Sys2Proof.Machine

/-! ### Guarded calls (42_protocol_states.md R187) -/

theorem dpSend_cases (E : Env) (payload : Vector Byte 8) (s : State) :
    dpSend E payload s = s ∨ (s.status.opened = true ∧ dpSend E payload s =
      { s with
        status := { s.status with txen := false }
        wire := s.wire ++ sendEvents E.params E.params.diagReqId payload.toList E.params.pverDp
        time := s.time + BitVec.ofNat 32 (sendDelay E s)
        draws := s.draws + 1 }) := by
  cases h : s.status.opened
  · exact .inl (dpSend_closed _ _ _ h)
  · exact .inr ⟨rfl, by rw [dpSend_open _ _ _ h, btSend_eq]⟩

theorem dpRecv_cases (E : Env) (id : FrameId) (len : Nat) (s : State) :
    dpRecv E id len s = { s with lastIo := 0 } ∨ (s.status.opened = true ∧ len ≤ 8 ∧ dpRecv E id len s =
      { s with
        rxBuf := rxFilled E s.draws (recvPoll E id len s).1
        rxFifo := (recvPoll E id len s).2
        rxCount := BitVec.ofNat 4 (recvPoll E id len s).1.length
        lastIo := BitVec.ofNat 4 (recvPoll E id len s).1.length
        status := { s.status with
          txen := false
          rxCkOk := rxCheck E.params id len E.params.pverDp (recvPoll E id len s).1 }
        wire := s.wire ++ recvEvents E.params id
        time := s.time + BitVec.ofNat 32 (recvDelay E s)
        draws := s.draws + 1 }) := by
  by_cases h : s.status.opened = true ∧ len ≤ 8
  · exact .inr ⟨h.1, h.2, by rw [dpRecv_open _ _ _ _ h.1 h.2, btRecv_eq]⟩
  · exact .inl (dpRecv_skipped _ _ _ _ h)

/-! ### Entry actions (R171 to R185) -/

/-- An entry action clears the selection, captures the request, does nothing, sends once or receives once. -/
theorem entry_cases (E : Env) (target : DpState) (s : State) :
    (target = .nodev ∧ entry E target s =
      { s with cand := 0, devIdx := 0, status := { s.status with available := false } }) ∨
    (target = .prepCfg ∧ entry E target s =
      { s with act := s.cfg, status := { s.status with cfgPending := false } }) ∨
    (target ≠ .nodev ∧ target ≠ .prepCfg ∧
      (entry E target s = s ∨ (∃ payload, entry E target s = dpSend E payload s) ∨
        ∃ id len, entry E target s = dpRecv E id len s)) := by
  cases target <;> simp [entry, sendBatteryType] <;>
    first | (right; left; exact ⟨_, rfl⟩) | (right; right; exact ⟨_, _, rfl⟩)

/-! ### TICK (R151, R171 to R186) -/

/-- A TICK does nothing, or it is one `goto` to a successor, from the state it found or from that state with the one
update its rule makes first. -/
theorem tickCmd_cases (E : Env) (s : State) :
    tickCmd E s = s ∨ ∃ target pre, tickCmd E s = goto E target pre ∧ target ∈ successors s.state ∧
      ((pre = s ∧ (s.state = .rspId → target = .nodev)) ∨
        (s.state = .rspId ∧ target = .reqId ∧ pre = { s with cand := s.cand + 1 } ∧
          ¬E.params.catalog.length ≤ s.cand.toNat + 1) ∨
        (s.state = .rspId ∧ target = .reqBt ∧
          pre = { s with devIdx := s.cand, status := { s.status with available := true } }) ∨
        (s.state = .rspBt ∧ target = .prep ∧ pre = decodeBatteryType E s) ∨
        (s.state = .rf2 ∧ target = .rf5 ∧ pre = decode2 E s) ∨
        (s.state = .rf5 ∧ target = .rf6 ∧ pre = decode5 E s) ∨
        (s.state = .rf6 ∧ target = .pause ∧ pre = decode6 E s)) := by
  unfold tickCmd
  split <;> rename_i hs <;>
    simp only [tickNodev, tickReqid, tickRspid, tickReqbt, tickRspbt, tickPrep, tickRf2, tickRf5, tickRf6, tickPause,
      tickPrepcfg, tickWc1, tickWc2, tickWb1, tickWb2, tickUnrecognised, deviceLost]
  all_goals repeat' split
  all_goals first | exact .inl rfl | exact .inr ⟨_, _, rfl, by simp [successors, hs], by simp_all⟩

/-! ### Time (R155) and received bytes -/

/-- The elapsed time grows by what the Clock adds, while it does not wrap. -/
theorem elapsed_clockAdvance (s : State) (d : Nat) (h : elapsed s + d < 2 ^ 32) :
    elapsed (clockAdvance d s) = elapsed s + d := by
  simp only [elapsed, clockAdvance] at *
  have e : s.time + BitVec.ofNat 32 d - s.tLast = (s.time - s.tLast) + BitVec.ofNat 32 d := by
    rw [BitVec.sub_eq_add_neg, BitVec.sub_eq_add_neg, BitVec.add_assoc, BitVec.add_assoc,
      BitVec.add_comm (BitVec.ofNat 32 d)]
  rw [e, BitVec.toNat_add, BitVec.toNat_ofNat]
  omega

/-- Right after a transition whose entry action let `d` units pass, no more than `d` have elapsed. -/
theorem elapsed_le_of_entry (now : Word32) (d : Nat) : (now + BitVec.ofNat 32 d - now).toNat ≤ d := by
  have e : now + BitVec.ofNat 32 d - now = BitVec.ofNat 32 d := by rw [BitVec.add_comm, BitVec.add_sub_cancel]
  rw [e, BitVec.toNat_ofNat]
  exact Nat.mod_le _ _

theorem rxAt_toNat (s : State) (i : Nat) (h : i < 9) : (rxAt s i h).toNat = rxByte s i := by
  simp [rxAt, rxByte, h]

end Sys2Proof.Machine
end

