-- ==== Sys2Proof/Laws/Step.lean ====
section
/-! SUPPORT. What one step of the machine can do, and what a written command can be. -/

namespace Sys2Proof.Machine

/-- A step does nothing, runs a command, or is one action of the Host, the Clock or the Bus (R11, R15, R28, R32, R36). -/
theorem step_cases (s t : State) (h : step s = .next t) :
    (s.inputs = [] ∧ t = s) ∨
    (∃ w rest, s.inputs = .write 0 w :: rest ∧ exec (decodeCmd w) { s with inputs := rest } = .next t) ∨
    (∃ r v rest, r ≠ 0 ∧ s.inputs = .write r v :: rest ∧ t = writeReg r v { s with inputs := rest }) ∨
    (∃ r rest, s.inputs = .read r :: rest ∧ t = hostRead r { s with inputs := rest }) ∨
    (∃ d rest, s.inputs = .advance d :: rest ∧ t = clockAdvance d { s with inputs := rest }) ∨
    (∃ b rest, s.inputs = .busByte b :: rest ∧ t = busAppend b { s with inputs := rest }) := by
  unfold step at h
  split at h
  · rename_i h0; exact .inl ⟨h0, (Host.Outcome.next.inj h).symm⟩
  · rename_i a rest h0
    cases a with
    | write r v =>
      simp only [stepInput] at h
      split at h
      · rename_i hr; subst hr; exact .inr (.inl ⟨v, rest, h0, h⟩)
      · rename_i hr; exact .inr (.inr (.inl ⟨r, v, rest, hr, h0, (Host.Outcome.next.inj h).symm⟩))
    | read r => exact .inr (.inr (.inr (.inl ⟨r, rest, h0, (Host.Outcome.next.inj h).symm⟩)))
    | advance d => exact .inr (.inr (.inr (.inr (.inl ⟨d, rest, h0, (Host.Outcome.next.inj h).symm⟩))))
    | busByte b => exact .inr (.inr (.inr (.inr (.inr ⟨b, rest, h0, (Host.Outcome.next.inj h).symm⟩))))

/-- A word written to `CMD` is one of the sixteen rows of the commands (R95, R96). -/
theorem decodeCmd_cases (w : Word32) :
    (∃ b, decodeCmd w = .openBus b) ∨ (∃ id len pver, decodeCmd w = .send id len pver) ∨
    (∃ id len pver, decodeCmd w = .recv id len pver) ∨ decodeCmd w = .sleep ∨ decodeCmd w = .tick ∨
    (∃ cap bt, decodeCmd w = .reqcfg cap bt) ∨ (∃ en, decodeCmd w = .seths en) ∨
    decodeCmd w ∈ [Instr.reservedOp0, .reservedOp8, .reservedOp9, .reservedOp10, .reservedOp11, .reservedOp12,
      .reservedOp13, .reservedOp14, .reservedOp15] := by
  unfold decodeCmd
  split <;> simp

/-- OPEN whole (R114). -/
theorem openCmd_cases (E : Env) (b : BitVec 24) (s : State) :
    (b = 0 ∧ openCmd E b s = { s with status := { s.status with opened := false, cmdErr := true } }) ∨
    (b ≠ 0 ∧ E.baudOk s.draws b = false ∧ openCmd E b s =
      { s with
        status := { s.status with opened := false }
        wire := s.wire ++ [.setBaud b]
        draws := s.draws + 1 }) ∨
    (b ≠ 0 ∧ E.baudOk s.draws b = true ∧ openCmd E b s =
      { s with
        baud := b
        byteTime := BitVec.ofNat 32 (byteTimeOf E.params b.toNat)
        fto := BitVec.ofNat 32 (frameTimeoutOf E.params b.toNat)
        status := { s.status with opened := true, txen := false }
        wire := s.wire ++ [.setBaud b, .pinRx]
        draws := s.draws + 1 }) := by
  by_cases hb : b = 0
  · exact .inl ⟨hb, by subst hb; rfl⟩
  · right
    unfold openCmd
    rw [if_neg hb]
    cases hk : E.baudOk s.draws b
    · left; refine ⟨hb, rfl, ?_⟩; simp [chSetBaud, hk]
    · right; refine ⟨hb, rfl, ?_⟩; simp [chSetBaud, hk, pinRx]

/-- SEND, RECV and SLEEP are a send, a receive of at most 8 bytes, or a refusal (R116, R120, R124). -/
theorem transportCmd_cases (E : Env) (s : State) :
    (∀ id len pver, sendCmd E id len pver s = refuse s ∨
      (s.status.opened = true ∧ len.toNat ≤ 8 ∧ sendCmd E id len pver s = btSend E id (txPayload s len) pver s)) ∧
    (∀ id len pver, recvCmd E id len pver s = refuse s ∨
      (s.status.opened = true ∧ len.toNat ≤ 8 ∧ recvCmd E id len pver s = btRecv E id len.toNat pver s)) ∧
    (sleepCmd E s = refuse s ∨
      (s.status.opened = true ∧
        sleepCmd E s = btSend E E.params.diagReqId E.params.sleepPayload.toList 1#2 s)) := by
  have key : ∀ len : BitVec 4, (s.status.opened && lenOk len) = true → s.status.opened = true ∧ len.toNat ≤ 8 :=
    fun len h => ⟨((Bool.and_eq_true _ _).mp h).1, of_decide_eq_true ((Bool.and_eq_true _ _).mp h).2⟩
  refine ⟨fun id len pver => ?_, fun id len pver => ?_, ?_⟩
  · unfold sendCmd
    split
    · rename_i h; exact .inr ⟨(key len h).1, (key len h).2, rfl⟩
    · exact .inl rfl
  · unfold recvCmd
    split
    · rename_i h; exact .inr ⟨(key len h).1, (key len h).2, rfl⟩
    · exact .inl rfl
  · unfold sleepCmd
    split
    · rename_i h; exact .inr ⟨h, rfl⟩
    · exact .inl rfl

/-- A host write other than to `CMD` changes at most `TXBUF` (R37). -/
theorem writeReg_eq (r : BitVec 6) (v : Word32) (s : State) : ∃ buf, writeReg r v s = { s with txBuf := buf } := by
  unfold writeReg
  split
  · exact ⟨_, rfl⟩
  · exact ⟨s.txBuf, rfl⟩

end Sys2Proof.Machine
end

