-- ==== Sys2Proof/Tests/Slice0.lean ====
section
/-! SUPPORT. Tests against the vectors of 95_test_vectors.md, and for each obligation with hypotheses a state and
operands that meet them. The vectors assume the example instantiation of section 12, which is `exampleEnv` here; the
machine itself runs at `Config.env`, whose parameters are opaque. -/

namespace Sys2Proof.Tests

open Sys2Proof.Machine

/-! ### The example instantiation (95_test_vectors.md section 12) -/

def exampleProfile (nad : Byte) (third : Byte) (f2 f5 f6 : FrameId) (name : String) : DeviceProfile where
  nodeAddress := nad
  diagTemplate := #v[0x00, 0x06, 0xB2, third, 0xFF, 0x7F, 0xFF, 0xFF]
  supportsDoubleCapacity := false
  displayName := name
  frame2 := ⟨f2, 7⟩
  frame5 := ⟨f5, 6⟩
  frame6 := ⟨f6, 6⟩

def exampleParams : Params where
  catalog := [exampleProfile 1 0 0x11 0x12 0x13 "A", exampleProfile 2 0 0x21 0x22 0x23 "B",
    exampleProfile 3 1 0x31 0x32 0x33 "C"]
  pollStep := 1
  unitsPerSecond := 1000
  tQuiet := 1000
  tMsg := 50
  tPoll := 1000
  tPollHs := 200
  tSendMax := 0
  pverDp := 2
  tplBtRead := #v[0x00, 0xA1, 0, 0, 0, 0, 0, 0]
  tplCapRetrieve := #v[0x00, 0xA2, 0, 0, 0, 0, 0, 0]
  tplCapWrite := #v[0x00, 0xA3, 0, 0, 0, 0, 0, 0]
  tplBtRetrieve := #v[0x00, 0xA4, 0, 0, 0, 0, 0, 0]
  tplBtWrite := #v[0x00, 0xA5, 0, 0, 0, 0, 0, 0]
  capValOff := 3
  btValOff := 3
  btRspOff := 3
  btWire := #v[0x0A, 0x14, 0x1E, 0xFF]
  pinTxLevel := true

def exampleLayout : Layout where
  curOff := 0
  curBigEndian := false
  voltOff := 3
  tempOff := 5
  errOff := 6
  errMask := 1
  socOff := 0
  sohOff := 1
  ocvOff := 2
  riOff := 3
  disOff := 0
  availOff := 2
  nomOff := 4
  calOff := 5
  calMask := 1

/-- The example environment with this Bus; the channel takes every baud rate, and a receive lets `took` units pass. -/
def exampleEnv (took : Nat) (bus : List WireEvent → List (Nat × Byte)) : Env where
  params := exampleParams
  layout := fun _ => exampleLayout
  freeProfile := fun _ => exampleProfile 0 0 0 0 0 ""
  baudOk := fun _ _ => true
  sendTime := fun _ => 0
  recvTime := fun _ => took
  busAnswer := fun _ => bus
  freeRx := fun _ _ => 0xEE
  freeField := fun _ _ => 0
  freeName := fun _ => ""

/-- A Bus that answers every header with these bytes, the first after one unit, all at once. -/
def answering (took : Nat) (bytes : List Byte) : Env := exampleEnv took fun _ => bytes.map fun b => (1, b)

/-- A Bus that never answers. -/
def silentEnv : Env := exampleEnv 11 fun _ => []

/-- After reset and `OPEN 19200`, but with `WIRE` and `RXFIFO` empty, so that what a command adds stands alone. -/
def ready : State :=
  { State.reset with
    status := { Status.reset with opened := true }
    baud := 19200
    byteTime := 521
    fto := 10
    rxFifo := [] }

/-- DP in a state with a matched device, catalog index 2, as the rows of section 11 have it. -/
def withDevice (st : DpState) (tLast time : Word32) : State :=
  { ready with
    state := st
    tLast := tLast
    time := time
    cand := 2
    devIdx := 2
    status := { ready.status with available := true } }

/-- The events of a frame or header between the pin events. -/
def symbols (bytes : List Byte) : List WireEvent := .brk :: bytes.map .byte

/-- What a send of this frame adds to `WIRE`. -/
def sent (bytes : List Byte) : List WireEvent := [.pinTx] ++ symbols bytes ++ [.pinRx]

/-- What a receive adds to `WIRE`. -/
def polled (pid : Byte) : List WireEvent := [.flush, .pinTx] ++ symbols [0x55, pid] ++ [.pinRx]

/-! ### Ill-formed instructions (30_encoding.md R100) -/

theorem test_openBus_of_baud_zero_is_ill_formed :
    (Instr.openBus 0).wellFormed = false ∧ (Instr.openBus 1).wellFormed = true := by decide

theorem test_send_of_nine_bytes_is_ill_formed :
    (Instr.send 0x21 9 2).wellFormed = false ∧ (Instr.send 0x21 8 2).wellFormed = true := by decide

theorem test_recv_of_fifteen_bytes_is_ill_formed :
    (Instr.recv 0 15 0).wellFormed = false ∧ (Instr.recv 0 8 0).wellFormed = true := by decide

theorem test_reserved_opcodes_are_ill_formed :
    [Instr.reservedOp0, .reservedOp8, .reservedOp9, .reservedOp10, .reservedOp11, .reservedOp12, .reservedOp13,
      .reservedOp14, .reservedOp15].all (fun i => !i.wellFormed) = true := by decide

theorem test_accepted_contract_violation_is_well_formed : (Instr.reqcfg 300 3).wellFormed = true := by decide

/-! ### Decoding (95_test_vectors.md sections 2 and 6; the words of the rows not there from 30_encoding.md R96, R98,
R99) -/

theorem test_decode_transport_words :
    decodeCmd 0x0004B001 = .openBus 19200 ∧ decodeCmd 0x0000A212 = .send 0x21 8 2 ∧
    decodeCmd 0x000023C2 = .send 0x3C 8 0 ∧ decodeCmd 0x00009E23 = .recv 0x22 7 2 ∧
    decodeCmd 0x0000A3D3 = .recv 0x3D 8 2 ∧ decodeCmd 0x00000004 = .sleep ∧ decodeCmd 0xFFF00014 = .sleep := by decide

theorem test_decode_protocol_words :
    decodeCmd 0x00000005 = .tick ∧ decodeCmd 0xFFFFFFF5 = .tick ∧ decodeCmd 0x00200646 = .reqcfg 100 2 ∧
    decodeCmd 0x003012C6 = .reqcfg 300 3 ∧ decodeCmd 0x00000017 = .seths 1 ∧ decodeCmd 0x00000007 = .seths 0 ∧
    decodeCmd 0xFFC00017 = .seths 1 := by decide

theorem test_decode_reserved_words :
    decodeCmd 0x00000000 = .reservedOp0 ∧ decodeCmd 0x00000008 = .reservedOp8 ∧ decodeCmd 0x00000009 = .reservedOp9 ∧
    decodeCmd 0x0000000A = .reservedOp10 ∧ decodeCmd 0x0000000B = .reservedOp11 ∧
    decodeCmd 0x0000000C = .reservedOp12 ∧ decodeCmd 0x0000000D = .reservedOp13 ∧
    decodeCmd 0x0000000E = .reservedOp14 ∧ decodeCmd 0xFFFFFFFF = .reservedOp15 := by decide

theorem test_decode_refused_operands :
    decodeCmd 0x0000A612 = .send 0x21 9 2 ∧ decodeCmd 0x00003C03 = .recv 0 15 0 ∧ decodeCmd 0x00000001 = .openBus 0 := by
  decide

theorem test_decode_state_codes :
    [0, 1, 2, 3, 4, 5, 6, 7, 8, 9, 10, 11, 12, 13, 14, 15].map decodeState =
      [.stNodev, .stReqid, .stRspid, .stReqbt, .stRspbt, .stPrep, .stRf2, .stRf5, .stRf6, .stPause, .stPrepcfg, .stWc1,
        .stWc2, .stWb1, .stWb2, .stUnrecognised] := by decide

theorem test_decode_battery_type_codes :
    [0, 1, 2, 3].map decodeBtype = [.btStandard, .btGel, .btAgm, .btUndefined] := by decide

theorem test_decode_wire_symbols :
    decodeWire .sync 0x55 = .ok .wireSync ∧ decodeWire .address 0x7D = .ok (.wirePid 0x3D) ∧
    decodeWire .address 0x55 = .ok (.wirePid 0x15) := ⟨rfl, rfl, rfl⟩

theorem test_decode_rejects_bad_header_bytes :
    decodeWire .address 0xE1 = .error .badParity ∧ decodeWire .sync 0x54 = .error .notSync := ⟨rfl, rfl⟩

theorem test_pid_column :
    [0x00, 0x01, 0x02, 0x03, 0x07, 0x10, 0x15, 0x1F, 0x21, 0x22, 0x2A, 0x31, 0x3C, 0x3D, 0x3E, 0x3F].map
        (pid exampleParams) =
      [0x80, 0xC1, 0x42, 0x03, 0x47, 0x50, 0x55, 0x1F, 0x61, 0xE2, 0x6A, 0xB1, 0x3C, 0x7D, 0xFE, 0xBF] := by decide

theorem test_table_words :
    decodeTableWord 32 0x0004B001 = some (.openBus 19200) ∧ decodeTableWord 8 5 = some .tick ∧
    decodeTableWord 4 9 = some .stPause := by decide

/-! ### Checksums and frames (sections 3 and 4) -/

theorem test_checksums :
    cks [] = 0xFF ∧ cks [0xFF, 0x01] = 0xFE ∧ cks [0xFF, 0xFF] = 0x00 ∧ cks [0x7F, 0x80, 0x01] = 0xFE ∧
    cks [0x01, 0x06, 0xB2, 0x00, 0xFF, 0x7F, 0xFF, 0xFF] = 0xC6 ∧
    cks [0xE2, 0x00, 0x00, 0x00, 0x38, 0x35, 0x10, 0x00] = 0x9F := by decide

theorem test_encodeFrame :
    encodeFrame exampleParams 0x22 [0x00, 0x00, 0x00, 0x38, 0x35, 0x10, 0x00] 2 =
      [0x55, 0xE2, 0x00, 0x00, 0x00, 0x38, 0x35, 0x10, 0x00, 0x9F] ∧
    encodeFrame exampleParams 0x3D [0x03, 0x06, 0xF2, 0x11, 0x22, 0x33, 0x44, 0x55] 2 =
      [0x55, 0x7D, 0x03, 0x06, 0xF2, 0x11, 0x22, 0x33, 0x44, 0x55, 0x04] ∧
    encodeFrame exampleParams 0x10 [] 1 = [0x55, 0x50, 0xFF] := by decide

theorem test_decodeFrame_refuses :
    decodeFrame exampleParams [0x55, 0x61, 1, 2, 3, 4, 5, 6, 7, 8, 0x7A] 1 = none ∧
    decodeFrame exampleParams [0x55, 0xE1, 1, 2, 3, 0xAA] 2 = none ∧
    decodeFrame exampleParams [0x54, 0x61, 0x00, 0x9E] 2 = none := by decide

/-! ### OPEN, SEND, SLEEP, RECV (sections 5 and 7) -/

theorem test_open_19200 :
    let t := openCmd silentEnv 19200 { State.reset with rxFifo := [] }
    (t.baud, t.byteTime, t.fto, t.status.opened, t.wire) = (19200, 521, 10, true, [.setBaud 19200, .pinRx]) := by
  decide

theorem test_nominal_frame_bits_by_default : nominalFrameBits Config.params = 124 := by decide

theorem test_open_timing_column :
    [2400, 115200, 1000000, 1, 16777215].map (fun b => (byteTimeOf exampleParams b, frameTimeoutOf exampleParams b)) =
      [(4167, 73), (87, 2), (10, 1), (10000000, 173600), (1, 1)] := by decide

/-- `TXBUF = 01 02 .. 08`. -/
def loaded : State := { ready with txBuf := #v[1, 2, 3, 4, 5, 6, 7, 8] }

theorem test_send_enhanced_and_classic :
    (sendCmd silentEnv 0x21 3 2 loaded).wire = sent [0x55, 0x61, 1, 2, 3, 0x98] ∧
    (sendCmd silentEnv 0x3C 8 2 loaded).wire = sent [0x55, 0x3C, 1, 2, 3, 4, 5, 6, 7, 8, 0xDB] := by decide

theorem test_sleep :
    (sleepCmd silentEnv ready).wire =
      sent [0x55, 0x3C, 0x00, 0xFF, 0xFF, 0xFF, 0xFF, 0xFF, 0xFF, 0xFF, 0x00] := by decide

theorem test_recv_complete :
    let t := recvCmd (answering 3 [0, 0, 0, 0x38, 0x35, 0x10, 0, 0x9F, 0xAA, 0xBB]) 0x22 7 2 ready
    (t.rxCount, t.status.rxCkOk, t.time, t.wire, t.rxFifo) = (8, true, 3, polled 0xE2, [0xAA, 0xBB]) ∧
      t.rxBuf.toList.take 8 = [0, 0, 0, 0x38, 0x35, 0x10, 0, 0x9F] := by decide

theorem test_recv_short :
    let t := recvCmd (answering 11 [0, 0, 0, 0x38]) 0x22 7 2 ready
    (t.rxCount, t.status.rxCkOk, t.rxBuf.toList.take 4) = (4, false, [0, 0, 0, 0x38]) := by decide

/-! ### REQCFG and SETHS (section 8) -/

theorem test_reqcfg_last_request_wins :
    let t := reqcfgCmd 80 0 (reqcfgCmd 100 2 State.reset)
    ((reqcfgCmd 100 2 State.reset).cfg, t.cfg, readReg 1 t) = (0x20064, 0x00050, 0x020) := by decide

theorem test_seths : readReg 1 (sethsCmd 1 (reqcfgCmd 100 2 State.reset)) = 0x060 := by decide

/-! ### TICK, one row of section 11 for each state -/

theorem test_nodev_sends_the_id_request :
    let t := tickCmd silentEnv { ready with tLast := 0xFFFFFF00, time := 744 }
    (t.state, t.tLast, t.wire) =
      (.reqId, 744, sent [0x55, 0x3C, 0x01, 0x06, 0xB2, 0x00, 0xFF, 0x7F, 0xFF, 0xFF, 0xC6]) := by decide

theorem test_nodev_waits :
    tickCmd silentEnv { ready with tLast := 0xFFFFFF00, time := 743 } =
      { ready with tLast := 0xFFFFFF00, time := 743 } := by decide

theorem test_reqid_receives :
    let t := tickCmd (answering 5 [0x03, 0x06, 0xF2, 0x11, 0x22, 0x33, 0x44, 0x55, 0x04])
      { ready with state := .reqId, tLast := 1000, time := 1050, cand := 2 }
    (t.state, t.tLast, t.time, t.lastIo, readReg 1 t, t.wire) = (.rspId, 1050, 1055, 9, 0x081, polled 0x7D) := by
  decide

theorem test_rspid_tries_the_next_candidate :
    let t := tickCmd silentEnv { ready with state := .rspId, tLast := 1050, time := 1061, cand := 1 }
    (t.state, t.cand, t.wire) =
      (.reqId, 2, sent [0x55, 0x3C, 0x03, 0x06, 0xB2, 0x01, 0xFF, 0x7F, 0xFF, 0xFF, 0xC3]) := by decide

theorem test_rspid_matches_on_one_byte :
    let t := tickCmd silentEnv { ready with state := .rspId, tLast := 1050, time := 1061, cand := 2, lastIo := 1 }
    (t.state, t.devIdx, readReg 1 t, t.wire) =
      (.reqBt, 2, 0x005, sent [0x55, 0x3C, 0x03, 0xA1, 0, 0, 0, 0, 0, 0, 0x5B]) := by decide

theorem test_reqbt_receives :
    let t := tickCmd (answering 5 [0x03, 0x02, 0xE1, 0x1E, 0xFF, 0xFF, 0xFF, 0xFF, 0xFA])
      (withDevice .reqBt 1055 1105)
    (t.state, t.time, t.lastIo, readReg 1 t) = (.rspBt, 1110, 9, 0x085) := by decide

theorem test_rspbt_keeps_the_byte :
    let t := tickCmd silentEnv { withDevice .rspBt 1105 1110 with
      lastIo := 9, rxBuf := #v[0x03, 0x02, 0xE1, 0x1E, 0xFF, 0xFF, 0xFF, 0xFF, 0xFA] }
    (t.state, t.battType) = (.prep, 0x1E) := by decide

theorem test_rspbt_loses_the_device :
    let t := tickCmd silentEnv (withDevice .rspBt 1105 1116)
    (t.state, t.tLast, t.cand, t.devIdx, readReg 1 t) = (.nodev, 1116, 0, 0, 0x001) := by decide

theorem test_prep_receives_frame2 :
    let t := tickCmd (answering 4 [0x02, 0x99, 0x1E, 0x38, 0x35, 0x82, 0x00, 0xA4]) (withDevice .prep 1110 1111)
    (t.state, t.time, t.lastIo, readReg 1 t, t.wire) = (.rf2, 1115, 8, 0x085, polled 0xB1) := by decide

theorem test_rf2_decodes :
    let t := tickCmd (answering 4 [0xC8, 0xBE, 0xB4, 0xF4, 0x01, 0x00, 0x9B]) { withDevice .rf2 1111 1115 with
      lastIo := 8, rxBuf := #v[0x02, 0x99, 0x1E, 0x38, 0x35, 0x82, 0x00, 0xA4, 0] }
    (t.state, t.snap.vRaw, t.snap.iRaw, t.snap.tRaw, t.lastIo, t.wire) =
      (.rf5, 14389, 2005250, 130, 7, polled 0x32) := by decide

theorem test_rf5_decodes :
    let t := tickCmd (answering 4 [0x84, 0x03, 0x20, 0x03, 0x64, 0x01, 0x7C]) { withDevice .rf5 1115 1119 with
      lastIo := 7, rxBuf := #v[0xC8, 0xBE, 0xB4, 0xF4, 0x01, 0x00, 0x9B, 0, 0] }
    (t.state, t.snap.socRaw, t.snap.sohRaw, t.snap.ocvRaw, t.snap.riRaw, t.wire) =
      (.rf6, 200, 190, 180, 500, polled 0x73) := by decide

theorem test_rf6_decodes :
    let t := tickCmd silentEnv { withDevice .rf6 1119 1123 with
      lastIo := 7, rxBuf := #v[0x84, 0x03, 0x20, 0x03, 0x64, 0x01, 0x7C, 0, 0] }
    (t.state, t.snap.capAvailRaw, t.snap.capDisRaw, t.snap.capNomRaw, readReg 1 t) = (.pause, 800, 900, 100, 0x00D) := by
  decide

theorem test_rf6_loses_the_device_and_keeps_the_snapshot :
    let s := withDevice .rf6 1119 1130
    let t := tickCmd silentEnv { s with snap := { s.snap with vRaw := 12000 } }
    (t.state, t.snap.vRaw, readReg 1 t) = (.nodev, 12000, 0x001) := by decide

theorem test_pause_polls_faster_in_high_speed :
    let s := withDevice .pause 1123 1323
    (tickCmd silentEnv s).state = .pause ∧
      (tickCmd silentEnv { s with status := { s.status with highSpeed := true } }).state = .prep := by decide

theorem test_pause_captures_the_request :
    let s := withDevice .pause 1123 1124
    let t := tickCmd silentEnv { s with cfg := 0x20064, status := { s.status with cfgPending := true } }
    (t.state, t.act, readReg 1 t) = (.prepCfg, 0x20064, 0x005) := by decide

theorem test_prepcfg_retrieves_the_capacity :
    let t := tickCmd silentEnv (withDevice .prepCfg 1124 1125)
    (t.state, t.wire) = (.wc1, sent [0x55, 0x3C, 0x03, 0xA2, 0, 0, 0, 0, 0, 0, 0x5A]) := by decide

theorem test_wc1_writes_the_low_byte_of_the_capacity :
    let t := tickCmd silentEnv { withDevice .wc1 1125 1175 with act := 0x3012C }
    (t.state, t.wire) = (.wc2, sent [0x55, 0x3C, 0x03, 0xA3, 0x00, 0x2C, 0, 0, 0, 0, 0x2D]) := by decide

theorem test_wc2_retrieves_the_battery_type :
    let t := tickCmd silentEnv (withDevice .wc2 1175 1225)
    (t.state, t.wire) = (.wb1, sent [0x55, 0x3C, 0x03, 0xA4, 0, 0, 0, 0, 0, 0, 0x58]) := by decide

theorem test_wb1_writes_the_battery_type :
    let t := tickCmd silentEnv { withDevice .wb1 1225 1275 with act := 0x20064 }
    (t.state, t.wire) = (.wb2, sent [0x55, 0x3C, 0x03, 0xA5, 0x00, 0x1E, 0, 0, 0, 0, 0x39]) := by decide

theorem test_wb2_asks_for_the_battery_type :
    let t := tickCmd silentEnv (withDevice .wb2 1275 1325)
    (t.state, t.wire) = (.reqBt, sent [0x55, 0x3C, 0x03, 0xA1, 0, 0, 0, 0, 0, 0, 0x5B]) := by decide

theorem test_unrecognised_is_not_gated :
    let t := tickCmd silentEnv (withDevice .unrecognised 1275 1275)
    (t.state, t.cand, t.devIdx, readReg 1 t) = (.nodev, 0, 0, 0x001) := by decide

theorem test_skipped_receive_without_a_transport :
    let t := tickCmd silentEnv
      { ready with state := .reqId, tLast := 1000, time := 1050, lastIo := 9, status := Status.reset }
    (t.state, t.tLast, t.time, t.lastIo, t.wire) = (.rspId, 1050, 1050, 0, []) := by decide

/-! ### Battery-type codes and wire symbols (sections 10 and 2) -/

theorem test_battery_type_frames :
    [0, 1, 2, 3].map (fun c => (sendBatteryType silentEnv c (withDevice .wb2 0 0)).wire) =
      [sent [0x55, 0x3C, 0x03, 0xA5, 0x00, 0x0A, 0, 0, 0, 0, 0x4D],
        sent [0x55, 0x3C, 0x03, 0xA5, 0x00, 0x14, 0, 0, 0, 0, 0x43],
        sent [0x55, 0x3C, 0x03, 0xA5, 0x00, 0x1E, 0, 0, 0, 0, 0x39],
        sent [0x55, 0x3C, 0x03, 0xA5, 0x00, 0xFF, 0, 0, 0, 0, 0x57]] := by decide

theorem test_wire_symbols :
    (chWrite (pid exampleParams 0x3D) (chWrite exampleParams.sync ready)).wire = [.byte 0x55, .byte 0x7D] := by decide

/-! ### Physical values and the display name (section 9; section 12) -/

def physical : Snapshot :=
  { Snapshot.reset with
    vRaw := 14389, iRaw := 1990000, tRaw := 0x11, socRaw := 101, sohRaw := 199, ocvRaw := 150, riRaw := 500
    capAvailRaw := 256, capDisRaw := 900, capNomRaw := 249 }

theorem test_physical_values :
    physical.batteryVoltage = 14389 / 1000 ∧ physical.currentMilliAmp = -10000 ∧ physical.temperature = -63 / 2 ∧
    physical.stateOfCharge = 101 / 2 ∧ physical.optimumChargeVoltage = 25 / 2 ∧ physical.internalResistance = 5 ∧
    physical.availableCapacity = 128 / 5 ∧ physical.dischargeableCapacity = 90 ∧ physical.nominalCapacity = 249 := by
  simp [physical, Snapshot.batteryVoltage, Snapshot.currentMilliAmp, Config.curBias, Snapshot.temperature,
    Snapshot.stateOfCharge, Snapshot.optimumChargeVoltage, Snapshot.internalResistance, Snapshot.availableCapacity,
    Snapshot.dischargeableCapacity, Snapshot.nominalCapacity]
  norm_num

theorem test_display_name : displayName silentEnv (withDevice .pause 0 0) = "C" := by decide

/-! ### The port and one step -/

theorem test_host_write_of_txbuf :
    (writeReg 15 0x1FF ready).txBuf = #v[0, 0, 0, 0, 0, 0, 0, 0xFF] ∧ writeReg 16 5 ready = ready ∧
      readReg 15 (writeReg 15 0x1FF ready) = 0xFF := by decide

theorem test_fetched_word_runs_next (s : State) :
    step (s.withFetchWord 32 0x00000017) = exec (.seths 1) { s with inputs := s.inputs } := rfl

theorem test_fetched_state_code_runs_next (s : State) :
    step (s.withFetchWord 4 15) = exec .tick { s with state := .unrecognised } := rfl

/-! ### Hypotheses of the obligations: each is met -/

theorem test_hypotheses_of_CommandWordDecodesByOpcodeAndFields :
    ∀ k < 16, (BitVec.ofNat 32 k).toNat % 16 = k := by decide

theorem test_hypotheses_of_PidDecodeInvertsPid : 
    pidDecode exampleParams 0x7D = some 0x3D ∧ pidDecode exampleParams 0x7E = none := by decide

theorem test_hypotheses_of_DecodeFrameInvertsEncodeFrame :
    decodeFrame exampleParams [0x55, 0x50, 0xAF] 2 = some (0x10, []) ∧
    decodeFrame exampleParams [0x55, 0x61, 1, 2, 3, 4, 5, 6, 7, 8, 0x7A] 2 =
      some (0x21, [1, 2, 3, 4, 5, 6, 7, 8]) := by decide

theorem test_hypotheses_of_ChecksumGeneratorLaws :
    ([1, 2] : List Byte).Perm [2, 1] ∧ wsum [0xFF, 0xFF] = (fun s => s % 256 + s / 256)^[1] 510 ∧
    256 ≤ (fun s => s % 256 + s / 256)^[0] 510 := by decide

/-- One unit less than the value is too little, the value is enough. -/
theorem test_hypotheses_of_TimingValuesAreRoundedUpQuotients :
    0 < 19200 ∧ 0 < exampleParams.timeoutDen ∧
    ¬exampleParams.bitsPerByte * 1000000 ≤ 520 * 19200 ∧ exampleParams.bitsPerByte * 1000000 ≤ 521 * 19200 := by
  decide

theorem test_hypotheses_of_OpenConfiguresOrClosesTheTransport : (0 : BitVec 24) = 0 ∧ (1 : BitVec 24) ≠ 0 := by decide

/-- Also of `StaleBytesDoNotAffectAReceive`. -/
theorem test_hypotheses_of_SendPutsTheFrameOnTheWire_and_RecvTakesTheAnswer :
    ready.status.opened = true ∧ (8 : BitVec 4).toNat ≤ 8 ∧ (0 : BitVec 4).toNat ≤ 8 := by decide

theorem test_hypotheses_of_SleepSendsTheSleepFrame :
    ready.status.opened = true ∧ State.reset.status.opened = false := by decide

/-- The timeout is reached at poll 11, with `len` 8; a receive of `len` 0 stops at poll 1 and leaves a byte. -/
theorem test_hypotheses_of_PollLoopTakesTheFirstBytesThatArrive :
    1 ≤ 1 ∧ pollLoop 10 1 9 12 0 [] [(1, 3), (11, 6), (12, 9)] [] = ([3, 6], []) ∧
    pollLoop 10 1 1 12 0 [] [(1, 3), (1, 6), (12, 9)] [] = ([3], [6]) := by decide

/-- The poll the loop stops at: with one byte enough, when it arrives; with nine wanted, the first beyond the timeout. -/
theorem test_stopsAtPoll :
    stopsAtPoll 10 1 0 [(1, 3), (1, 6), (12, 9)] 1 ∧ stopsAtPoll 10 1 8 [(1, 3), (11, 6), (12, 9)] 11 ∧
    stopsAtPoll 10 4 8 [] 3 := by unfold stopsAtPoll; decide

theorem test_hypotheses_of_RefusalsSetTheStickyCmdErr :
    (State.reset.status.opened = false ∨ 9 ≤ (8 : BitVec 4).toNat) ∧
    (ready.status.opened = false ∨ 9 ≤ (9 : BitVec 4).toNat) ∧ State.reset.status.opened = false := by decide

theorem test_hypotheses_of_RefusalsSetTheStickyCmdErr_stickiness :
    ∃ t, step { refuse ready with inputs := [.advance 1] } = .next t ∧ (refuse ready).status.cmdErr = true :=
  ⟨_, rfl, rfl⟩

theorem test_hypotheses_of_TickIsIdempotentAtZeroElapsedTime :
    (withDevice .pause 7 7).time = (withDevice .pause 7 7).tLast ∧ (withDevice .pause 7 7).state ≠ .unrecognised := by
  decide

theorem test_hypotheses_of_SnapshotChangesOnlyInItsOwnFrame_and_ReqcfgDoesNotDisturbTickOutsidePause :
    ready.state ≠ .rf2 ∧ ready.state ≠ .rf5 ∧ ready.state ≠ .rf6 ∧ ready.state ≠ .rspBt ∧ ready.state ≠ .pause := by
  decide

/-! #### Gates -/

/-- The transport is open, a receive was answered, and exactly `n` units have elapsed. -/
def afterGate (n : Nat) : State := { ready with tLast := 0, time := BitVec.ofNat 32 n, lastIo := 8 }

theorem exampleParams_ok : exampleParams.Ok := by unfold Params.Ok; decide

/-- The quiet period has just passed, or lacks one unit, or has passed without a transport. -/
theorem test_hypotheses_of_NodevLeavesAfterTheQuietPeriod :
    let held := fun s : State =>
      ¬(silentEnv.params.tQuiet ≤ (s.time - s.tLast).toNat ∧ s.status.opened = true)
    ¬held (afterGate 1000) ∧ held (afterGate 999) ∧ held { afterGate 1000 with status := Status.reset } := by decide

/-- The message delay and the minimum gate have just passed, or lack one unit. -/
theorem test_hypotheses_of_RequestStates_and_ConfigurationStates :
    silentEnv.params.Ok ∧ silentEnv.params.tMsg ≤ ((afterGate 50).time - (afterGate 50).tLast).toNat ∧
    ¬silentEnv.params.tMsg ≤ ((afterGate 49).time - (afterGate 49).tLast).toNat ∧
    silentEnv.params.tStep ≤ ((afterGate 1).time - (afterGate 1).tLast).toNat :=
  ⟨exampleParams_ok, by decide⟩

/-- The gate that has just passed, for the statements about the states behind `T_STEP`; a count of 0 and one that is
not. -/
theorem test_hypotheses_of_states_behind_the_minimum_gate :
    Config.params.tStep ≤ ((afterGate 1).time - (afterGate 1).tLast).toNat ∧ (afterGate 1).lastIo ≠ 0 ∧
    Config.params.tStep ≤ ((withDevice .rf2 0 1).time - (withDevice .rf2 0 1).tLast).toNat ∧
    (withDevice .rf2 0 1).lastIo = 0 := by decide

/-- Both outcomes without an answer, for the example catalog: another candidate is left, or none. -/
theorem test_hypotheses_of_RspidMatchesOrTriesTheNextCandidate :
    silentEnv.params.tStep ≤ ((afterGate 1).time - (afterGate 1).tLast).toNat ∧
    ¬silentEnv.params.catalog.length ≤ (1 : Byte).toNat + 1 ∧
    silentEnv.params.catalog.length ≤ (2 : Byte).toNat + 1 := by decide

/-- No time has elapsed: every gate holds, that of `ST_PAUSE` in its three forms. -/
theorem test_hypotheses_of_GatesHoldEveryStateBack :
    let e := (ready.time - ready.tLast).toNat
    e < Config.params.tQuiet ∧ State.reset.status.opened = false ∧ e < Config.params.tMsg ∧ e < Config.params.tStep ∧
    e < Config.params.tPollHs ∧ e < Config.params.tPoll := by
  obtain ⟨-, -, -, -, -, -, quiet, msg, poll, pollHs, -, step⟩ := config_params_ok
  have zero : (ready.time - ready.tLast).toNat = 0 := by decide
  have shut : State.reset.status.opened = false := rfl
  simp only [zero, shut, true_and]
  omega

/-! #### Runs of TICK in the example instantiation -/

theorem test_hypotheses_of_SilentBusLeadsBackToNodev :
    let s := { ready with state := .reqId }
    let ds := [50, 50, 50, 50, 50, 50]
    silentEnv.params.Ok ∧ (∀ n w, silentEnv.busAnswer n w = []) ∧ s.state = .reqId ∧ s.cand = 0 ∧
    s.status.txen = false ∧ (s.time - s.tLast).toNat ≤ silentEnv.params.tSendMax ∧
    ds.length = 2 * silentEnv.params.catalog.length ∧ PacedBy silentEnv s ds :=
  ⟨exampleParams_ok, fun _ _ => rfl, rfl, rfl, rfl, by decide, rfl, by unfold PacedBy; decide⟩

/-- The last events on the wire when a receive of the diagnostic response follows the id request of candidate 2. -/
def askedForC : List WireEvent :=
  sent [0x55, 0x3C, 0x03, 0x06, 0xB2, 0x01, 0xFF, 0x7F, 0xFF, 0xFF, 0xC3] ++ polled 0x7D

/-- A Bus that answers only the id request of candidate 2. -/
def onlyC : Env := exampleEnv 5 fun w => if w.drop (w.length - 20) = askedForC then [(0, 0x03)] else []

theorem drop_to_suffix (w v : List WireEvent) (h : v.length = 20) : (w ++ v).drop ((w ++ v).length - 20) = v := by
  rw [List.length_append, h, Nat.add_sub_cancel, List.drop_left]

theorem onlyC_answers (n : Nat) (w : List WireEvent) (c : Nat) (hc : c < onlyC.params.catalog.length) :
    onlyC.busAnswer n (w ++ sendEvents onlyC.params onlyC.params.diagReqId
      (idRequest onlyC.params (profile onlyC c)).toList onlyC.params.pverDp ++
        recvEvents onlyC.params onlyC.params.diagRspId) = if c = 2 then [(0, 0x03)] else [] := by
  have three : c = 0 ∨ c = 1 ∨ c = 2 := by
    have : onlyC.params.catalog.length = 3 := rfl
    omega
  show (if _ = askedForC then _ else _) = _
  rw [List.append_assoc]
  rcases three with rfl | rfl | rfl <;> rw [drop_to_suffix _ _ (by decide)] <;> decide

theorem test_hypotheses_of_DiscoverySelectsTheAnsweringCandidate :
    let ds := [50, 1050, 50, 50, 50, 50]
    onlyC.params.Ok ∧ 2 < onlyC.params.catalog.length ∧ ready.state = .nodev ∧ ready.cand = 0 ∧
    ready.status.opened = true ∧ onlyC.params.tQuiet ≤ (ready.time - ready.tLast).toNat + 1000 ∧
    (ready.time - ready.tLast).toNat + 1000 < 2 ^ 32 ∧ ds.length = 2 * (2 + 1) ∧ PacedBy onlyC ready ds :=
  ⟨exampleParams_ok, by decide, rfl, rfl, rfl, by decide, by decide, rfl, by unfold PacedBy; decide⟩

theorem test_hypotheses_of_ConfigurationWriteSendsFourFramesInOrder :
    let s := withDevice .prepCfg 9 9
    let ds := [50, 50, 50, 50, 50]
    silentEnv.params.Ok ∧ s.state = .prepCfg ∧ s.status.opened = true ∧
    (s.time - s.tLast).toNat ≤ silentEnv.params.tSendMax ∧ ds.length = 5 ∧ PacedBy silentEnv s ds :=
  ⟨exampleParams_ok, rfl, rfl, by decide, rfl, by unfold PacedBy; decide⟩

/-- Every field of the example layout lies in its frame; `errOff` and `calOff` name the last payload byte. -/
theorem test_hypotheses_of_the_frame_decodes :
    let P := profile silentEnv 2
    let L := silentEnv.layout P
    (L.voltOff.val + 1 < P.frame2.len ∧ L.curOff.val + 2 < P.frame2.len ∧ L.tempOff.val < P.frame2.len ∧
      L.errOff.val + 1 = P.frame2.len) ∧
    (L.socOff.val < P.frame5.len ∧ L.sohOff.val < P.frame5.len ∧ L.ocvOff.val < P.frame5.len ∧
      L.riOff.val + 1 < P.frame5.len) ∧
    (L.availOff.val + 1 < P.frame6.len ∧ L.disOff.val + 1 < P.frame6.len ∧ L.nomOff.val < P.frame6.len ∧
      L.calOff.val + 1 = P.frame6.len) := by decide

/-! #### Steps -/

theorem test_hypotheses_of_StepRunsTheDecodedCommand :
    (ready.withFetchWord 32 0x00000005).inputs = .write 0 0x00000005 :: ready.inputs := rfl

theorem test_hypotheses_of_ReadHasNoSideEffect : { ready with inputs := [.read 63] }.inputs = [.read 63] := rfl

/-- The numbers on both sides of the two ends of `TXBUF`. -/
theorem test_hypotheses_of_WritesReachOnlyTxbuf :
    ∀ r ∈ [(1 : BitVec 6), 7, 8, 15, 16, 63], { ready with inputs := [.write r 5] }.inputs = [.write r 5] ∧ r ≠ 0 := by
  decide

theorem test_hypotheses_of_ClockAndBusWriteOnlyTheirOwn :
    { ready with inputs := [.advance 4294967296] }.inputs = [.advance 4294967296] ∧
    { ready with inputs := [.busByte 1] }.inputs = [.busByte 1] := ⟨rfl, rfl⟩

/-- Each end of the ranges of numbers that read 0. -/
theorem test_hypotheses_of_RegisterMap :
    ∀ r ∈ [(0 : BitVec 6), 7, 25, 31, 50, 63],
      r = 0 ∨ r = 7 ∨ (25 ≤ r.toNat ∧ r.toNat ≤ 31) ∨ 50 ≤ r.toNat := by decide

theorem test_hypotheses_of_OnlyCommandsChangeStatusAndSnapshot :
    ∃ t, step { ready with inputs := [.write 8 1] } = .next t ∧
      ∀ w rest, { ready with inputs := [.write 8 1] }.inputs ≠ .write 0 w :: rest :=
  ⟨_, rfl, fun _ _ h => absurd (congrArg List.head? h) (by simp)⟩

theorem test_hypotheses_of_StateChangesOnlyInTick_and_WireOnlyGrows :
    ∃ t, step { ready with state := .unrecognised, inputs := [.write 0 5] } = .next t ∧ t.state ≠ .unrecognised :=
  ⟨_, rfl, by decide⟩

/-- A state in the middle of a run: DP pauses with a device, the transport is open, a TICK comes next. -/
def midRun : State :=
  { withDevice .pause 0 0 with
    cand := 0
    devIdx := 0
    byteTime := BitVec.ofNat 32 (byteTimeOf Config.params 19200)
    fto := BitVec.ofNat 32 (frameTimeoutOf Config.params 19200)
    inputs := [.write 0 5] }

theorem test_hypotheses_of_EveryStepKeepsTheInvariant :
    midRun.Inv Config.env ∧ ∃ t, step midRun = .next t :=
  ⟨⟨rfl, rfl, List.length_pos_of_ne_nil config_params_ok.1, by decide, rfl, fun _ => rfl, fun h => absurd h (by decide),
    fun h => absurd h (by decide), by decide, by decide, fun _ => ⟨by decide, rfl, rfl⟩⟩, _, rfl⟩

end Sys2Proof.Tests
end

section
/-! Proofs for 00_scope.md: every step has a next state (R17, R230), and a symbol of a header is one byte (R16). -/

namespace Sys2Proof.Machine

/-! ### Every step has a next state -/

/-- Every arm of `exec` is a state function behind `.next`; a command the hardware refuses is one too (R230, R240). -/
theorem exec_has_next (i : Instr) (s : State) : ∃ t, exec i s = .next t := by
  cases i <;> exact ⟨_, rfl⟩

/-- Only a write to `CMD` runs a command; every other action of an agent is a state function (R15, R32, R36, R37). -/
theorem stepInput_has_next (a : Input) (s : State) : ∃ t, stepInput a s = .next t := by
  cases a with
  | write r v =>
    by_cases hr : r = 0#6
    · obtain ⟨t, ht⟩ := exec_has_next (decodeCmd v) s
      exact ⟨t, (if_pos hr).trans ht⟩
    · exact ⟨writeReg r v s, if_neg hr⟩
  | read r => exact ⟨hostRead r s, rfl⟩
  | advance d => exact ⟨clockAdvance d s, rfl⟩
  | busByte b => exact ⟨busAppend b s, rfl⟩

theorem step_of_inputs_nil (s : State) (h : s.inputs = []) : step s = .next s := by
  simp [step, h]

theorem step_of_inputs_cons (s : State) (a : Input) (rest : List Input) (h : s.inputs = a :: rest) :
    step s = stepInput a { s with inputs := rest } := by
  simp [step, h]

/-- Settles O57, by the next action: none leaves the state as it is, and each one has a next state. -/
theorem everyStepHasANextState : Obligations.EveryStepHasANextState := by
  intro s
  cases h : s.inputs with
  | nil => exact ⟨s, step_of_inputs_nil s h⟩
  | cons a rest =>
    rw [step_of_inputs_cons s a rest h]
    exact stepInput_has_next a { s with inputs := rest }

/-! ### The wire symbols -/

/-- `ChWrite` whole: the byte goes out and nothing else changes (R16). -/
theorem chWrite_eq (b : Byte) (s : State) : chWrite b s = { s with wire := s.wire ++ [.byte b] } := rfl

theorem exec_wireSync (s : State) : exec .wireSync s = .next (chWrite Config.params.sync s) := rfl

theorem exec_wirePid (id : FrameId) (s : State) :
    exec (.wirePid id) s = .next (chWrite (pid Config.params id) s) := rfl

/-- Settles O36: both rows are one `ChWrite`. -/
theorem headerSymbolsAreOneByteEach : Obligations.HeaderSymbolsAreOneByteEach := by
  intro id s
  constructor
  · rw [exec_wireSync, chWrite_eq]
  · rw [exec_wirePid, chWrite_eq]

end Sys2Proof.Machine
end

section
/-! Proofs for 10_state.md: the register port (R27, R37), the steps of the Host, the Clock and the Bus (R15, R32, R36),
what a TICK leaves alone (R21, R151), and the invariant of every step (R70, R114, R123, R125, R186, R188). -/

namespace Sys2Proof.Machine

/-! ### The registers the Host reads -/

/-- The reserved numbers and that of `CMD` (R37, R61). -/
theorem readReg_reserved (r : BitVec 6) (s : State)
    (h : r = 0 ∨ r = 7 ∨ (25 ≤ r.toNat ∧ r.toNat ≤ 31) ∨ 50 ≤ r.toNat) : readReg r s = 0 := by
  have hr : r.toNat < 64 := r.isLt
  unfold readReg
  obtain rfl | rfl | ⟨hlo, hhi⟩ | hlo := h
  · rfl
  · rfl
  · interval_cases r.toNat <;> rfl
  · interval_cases r.toNat <;> rfl

theorem readReg_txBuf (k : Fin 8) (s : State) :
    (readReg (BitVec.ofNat 6 (8 + k.val)) s).toNat = (s.txBuf[k.val]).toNat := by
  fin_cases k <;> exact BitVec.toNat_setWidth_of_le (by decide)

theorem readReg_rxBuf (k : Fin 9) (s : State) :
    (readReg (BitVec.ofNat 6 (16 + k.val)) s).toNat = rxByte s k.val := by
  rw [← rxAt_toNat s k.val k.isLt]
  fin_cases k <;> exact BitVec.toNat_setWidth_of_le (by decide)

/-- Settles O50, by the ranges of R37's table. -/
theorem registerMap : Obligations.RegisterMap := by
  intro s
  refine ⟨fun r h => readReg_reserved r s h, fun k => readReg_txBuf k s, fun k => readReg_rxBuf k s, ?_, ?_, ?_⟩
  all_goals simp (disch := omega) [readReg, -BitVec.toNat_setWidth, BitVec.toNat_setWidth_of_le]

/-- A bit below a bit vector counts once, the bits above it double. -/
theorem toNat_append_ofBool {n : Nat} (x : BitVec n) (b : Bool) :
    (x ++ BitVec.ofBool b).toNat = 2 * x.toNat + b.toNat := by
  rw [BitVec.toNat_append, ← Nat.shiftLeft_add_eq_or_of_lt (BitVec.isLt _), Nat.shiftLeft_eq, BitVec.toNat_ofBool,
    Nat.pow_one, Nat.mul_comm]

/-- Settles O51: `STATUS` is its nine flags, one under the other. -/
theorem statusBits : Obligations.StatusBits := by
  intro s
  have hread : (readReg 1 s).toNat = s.status.word.toNat :=
    BitVec.toNat_setWidth_of_le (by decide)
  rw [hread]
  simp only [Status.word, toNat_append_ofBool, BitVec.toNat_ofBool]
  omega

/-- Settles O58, register by register. -/
theorem resetRegistersReadZero : Obligations.ResetRegistersReadZero :=
  ⟨rfl, by decide, rfl⟩

/-! ### The steps of the Host, the Clock and the Bus -/

/-- Settles O46: a write of number 0 is the issue of the command. -/
theorem stepRunsTheDecodedCommand : Obligations.StepRunsTheDecodedCommand := by
  intro w rest s h
  rw [step_of_inputs_cons s _ rest h]
  rfl

/-- Settles O47: the step is `hostRead`. -/
theorem readHasNoSideEffect : Obligations.ReadHasNoSideEffect := by
  intro r rest s h
  rw [step_of_inputs_cons s _ rest h]
  rfl

/-- What each byte of `TXBUF` holds after a write of any number (R37). -/
theorem writeReg_txBuf_get (r : BitVec 6) (v : Word32) (s : State) (k : Fin 8) :
    (writeReg r v s).txBuf[k.val] = if r.toNat = 8 + k.val then BitVec.ofNat 8 v.toNat else s.txBuf[k.val] := by
  by_cases hr : 8 ≤ r.toNat ∧ r.toNat < 16
  · have hslot : r.toNat - 8 = k.val ↔ r.toNat = 8 + k.val := by omega
    simp only [writeReg_txBuf r v s hr, Vector.getElem_set, hslot, BitVec.ofNat_toNat]
  · rw [writeReg_ignored r v s hr, if_neg (by omega)]

/-- Settles O48: the step is `writeReg`, which writes one byte of `TXBUF` or nothing. -/
theorem writesReachOnlyTxbuf : Obligations.WritesReachOnlyTxbuf := by
  intro r v rest s h hr
  refine ⟨writeReg r v { s with inputs := rest }, ?_, ?_, fun k => writeReg_txBuf_get r v _ k⟩
  · rw [step_of_inputs_cons s _ rest h]
    exact if_neg hr
  · obtain ⟨buf, hbuf⟩ := writeReg_eq r v { s with inputs := rest }
    rw [hbuf]

/-- Settles O49: the steps are `clockAdvance` and `busAppend`. -/
theorem clockAndBusWriteOnlyTheirOwn : Obligations.ClockAndBusWriteOnlyTheirOwn := by
  intro rest s
  refine ⟨fun d h => ⟨clockAdvance d { s with inputs := rest }, ?_, ?_, rfl⟩, fun b h => ?_⟩
  · rw [step_of_inputs_cons s _ rest h]
    rfl
  · simp [clockAdvance]
  · rw [step_of_inputs_cons s _ rest h]
    rfl

/-! ### What passes over the bus -/

theorem wireRun_append (p : Bool) (a b : List WireEvent) :
    wireRun p (a ++ b) = (wireRun p a).bind fun q => wireRun q b := by
  induction a generalizing p with
  | nil => rfl
  | cons e a ih => cases e <;> cases p <;> simp [wireRun, ih]

/-- Bytes go out only while the pin is transmit-enabled, and leave it so. -/
theorem wireRun_bytes (bytes : List Byte) : wireRun true (bytes.map .byte) = some true := by
  induction bytes with
  | nil => rfl
  | cons b bytes ih => exact ih

/-- A frame is bracketed by the two pin events (R70, R117). -/
theorem wireRun_sendEvents (p : Params) (id : FrameId) (payload : List Byte) (pver : BitVec 2) :
    wireRun false (sendEvents p id payload pver) = some false := by
  simp [sendEvents, headerSymbols, wireRun, wireRun_append, wireRun_bytes]

/-- A header sent by a receive is bracketed by the two pin events (R70, R119). -/
theorem wireRun_recvEvents (p : Params) (id : FrameId) : wireRun false (recvEvents p id) = some false := rfl

/-- `WIRE` of `t` is that of `s` with a stretch appended in which the pin is enabled for every symbol and released at
the end (R35, R70). -/
def WireExtends (s t : State) : Prop := ∃ events, t.wire = s.wire ++ events ∧ wireRun false events = some false

theorem wireExtends_of_wire_eq {s t : State} (h : t.wire = s.wire) : WireExtends s t := ⟨[], by simp [h], rfl⟩

theorem WireExtends.bracketed {s t : State} (h : WireExtends s t) (hs : wireRun false s.wire = some false) :
    wireRun false t.wire = some false := by
  obtain ⟨events, hwire, hrun⟩ := h
  rw [hwire, wireRun_append, hs]
  exact hrun

/-- What a send, a receive, or a call of DP that is skipped can change (R117, R119, R187): the receive side, the pin,
`RXCKOK`, `WIRE` and the time, with the counts in their range (R30, R123). -/
structure BusOp (s t : State) : Prop where
  frame : t = { s with
    rxBuf := t.rxBuf, rxFifo := t.rxFifo, rxCount := t.rxCount, lastIo := t.lastIo, wire := t.wire, time := t.time,
    draws := t.draws, status := { s.status with txen := t.status.txen, rxCkOk := t.status.rxCkOk } }
  pin : s.status.txen = false → t.status.txen = false
  wire : WireExtends s t
  rxCountLe : s.rxCount.toNat ≤ 9 → t.rxCount.toNat ≤ 9
  lastIoLe : s.lastIo.toNat ≤ 9 → t.lastIo.toNat ≤ 9

theorem busOp_refl (s : State) : BusOp s s := ⟨rfl, id, wireExtends_of_wire_eq rfl, id, id⟩

theorem btSend_busOp (E : Env) (id : FrameId) (payload : List Byte) (pver : BitVec 2) (s : State) :
    BusOp s (btSend E id payload pver s) := by
  rw [btSend_eq]
  exact ⟨rfl, fun _ => rfl, ⟨_, rfl, wireRun_sendEvents ..⟩, fun h => h, fun h => h⟩

/-- A receive of at most 8 bytes counts at most 9 with the checksum (R30, R123). -/
theorem recvPoll_count_le (E : Env) (id : FrameId) (len : Nat) (s : State) (h : len ≤ 8) :
    (BitVec.ofNat 4 (recvPoll E id len s).1.length).toNat ≤ 9 := by
  have hlen := recvPoll_length_le E id len s
  rw [BitVec.toNat_ofNat]
  omega

theorem btRecv_busOp (E : Env) (id : FrameId) (len : Nat) (pver : BitVec 2) (s : State) (h : len ≤ 8) :
    BusOp s (btRecv E id len pver s) := by
  rw [btRecv_eq]
  exact ⟨rfl, fun _ => rfl, ⟨_, rfl, wireRun_recvEvents ..⟩, fun _ => recvPoll_count_le E id len s h, fun h => h⟩

theorem dpSend_busOp (E : Env) (payload : Vector Byte 8) (s : State) : BusOp s (dpSend E payload s) := by
  cases h : s.status.opened with
  | false => rw [dpSend_closed _ _ _ h]; exact busOp_refl s
  | true => rw [dpSend_open _ _ _ h]; exact btSend_busOp ..

theorem dpRecv_busOp (E : Env) (id : FrameId) (len : Nat) (s : State) : BusOp s (dpRecv E id len s) := by
  obtain hskip | ⟨-, hlen, hrecv⟩ := dpRecv_cases E id len s
  · rw [hskip]
    exact ⟨rfl, fun h => h, wireExtends_of_wire_eq rfl, fun h => h, fun _ => Nat.zero_le 9⟩
  · have hcount := recvPoll_count_le E id len s hlen
    rw [hrecv]
    exact ⟨rfl, fun _ => rfl, ⟨_, rfl, wireRun_recvEvents ..⟩, fun _ => hcount, fun _ => hcount⟩

/-- Only the entries of `ST_NODEV` and `ST_PREPCFG` do more than one guarded call (R171 to R185). -/
theorem entry_busOp (E : Env) (target : DpState) (s : State) (hn : target ≠ .nodev) (hp : target ≠ .prepCfg) :
    BusOp s (entry E target s) := by
  obtain ⟨h, -⟩ | ⟨h, -⟩ | ⟨-, -, h | ⟨payload, h⟩ | ⟨id, len, h⟩⟩ := entry_cases E target s
  · exact absurd h hn
  · exact absurd h hp
  · rw [h]; exact busOp_refl s
  · rw [h]; exact dpSend_busOp ..
  · rw [h]; exact dpRecv_busOp ..

/-! ### What DP leaves alone -/

theorem entry_nodev (E : Env) (s : State) :
    entry E .nodev s = { s with cand := 0, devIdx := 0, status := { s.status with available := false } } := rfl

theorem entry_prepCfg (E : Env) (s : State) :
    entry E .prepCfg s = { s with act := s.cfg, status := { s.status with cfgPending := false } } := rfl

theorem goto_eq (E : Env) (target : DpState) (s : State) : goto E target s = entry E target (entered target s) := rfl

/-- What the Host writes, configures or gets, with the actions to come: no rule of DP touches it (R21, R151, R187; log 5,
log 15). -/
def hostPart (s : State) :=
  (s.txBuf, s.baud, s.byteTime, s.fto, s.cfg, s.inputs, s.readData, s.status.opened, s.status.highSpeed,
    s.status.cmdErr)

/-- A fact that holds of an entry action when it holds of `ST_NODEV`'s, of `ST_PREPCFG`'s and of every bus operation. -/
theorem entry_induction {motive : State → Prop} (E : Env) (target : DpState) (s : State)
    (nodev : motive { s with cand := 0, devIdx := 0, status := { s.status with available := false } })
    (prepCfg : motive { s with act := s.cfg, status := { s.status with cfgPending := false } })
    (busOp : ∀ t, BusOp s t → motive t) : motive (entry E target s) := by
  by_cases hn : target = .nodev
  · subst hn; exact nodev
  · by_cases hp : target = .prepCfg
    · subst hp; exact prepCfg
    · exact busOp _ (entry_busOp E target s hn hp)

theorem BusOp.hostPart_eq {s t : State} (h : BusOp s t) : hostPart t = hostPart s := by
  rw [h.frame]
  rfl

theorem BusOp.state_eq {s t : State} (h : BusOp s t) : t.state = s.state := by
  rw [h.frame]

theorem goto_hostPart (E : Env) (target : DpState) (s : State) : hostPart (goto E target s) = hostPart s := by
  rw [goto_eq]
  exact entry_induction (motive := fun t => hostPart t = hostPart s) E target (entered target s) rfl rfl
    fun _ h => h.hostPart_eq

theorem goto_wireExtends (E : Env) (target : DpState) (s : State) : WireExtends s (goto E target s) := by
  rw [goto_eq]
  exact entry_induction E target (entered target s) (wireExtends_of_wire_eq rfl) (wireExtends_of_wire_eq rfl)
    fun _ h => h.wire

@[simp] theorem goto_state (E : Env) (target : DpState) (s : State) : (goto E target s).state = target := by
  rw [goto_eq]
  exact entry_induction (motive := fun t => t.state = target) E target (entered target s) rfl rfl fun _ h => h.state_eq

/-- A TICK does nothing, or it is one `goto` to a successor from a state that has the Host's part and `WIRE` of the
one it found. -/
theorem tickCmd_goto (E : Env) (s : State) :
    tickCmd E s = s ∨ ∃ target pre, tickCmd E s = goto E target pre ∧ target ∈ successors s.state ∧
      hostPart pre = hostPart s ∧ pre.wire = s.wire := by
  obtain h | ⟨target, pre, hgoto, hsucc, hpre⟩ := tickCmd_cases E s
  · exact .inl h
  · refine .inr ⟨target, pre, hgoto, hsucc, ?_⟩
    obtain ⟨rfl, -⟩ | ⟨-, -, rfl, -⟩ | ⟨-, -, rfl⟩ | ⟨-, -, rfl⟩ | ⟨-, -, rfl⟩ | ⟨-, -, rfl⟩ | ⟨-, -, rfl⟩ := hpre
    all_goals exact ⟨rfl, rfl⟩

theorem tickCmd_hostPart (E : Env) (s : State) : hostPart (tickCmd E s) = hostPart s := by
  obtain h | ⟨target, pre, hgoto, -, hpart, -⟩ := tickCmd_goto E s
  · rw [h]
  · rw [hgoto, goto_hostPart, hpart]

theorem tickCmd_wireExtends (E : Env) (s : State) : WireExtends s (tickCmd E s) := by
  obtain h | ⟨target, pre, hgoto, -, -, hwire⟩ := tickCmd_goto E s
  · rw [h]; exact wireExtends_of_wire_eq rfl
  · obtain ⟨events, hext, hrun⟩ := goto_wireExtends E target pre
    exact ⟨events, by rw [hgoto, hext, hwire], hrun⟩

theorem exec_tick (s : State) : exec .tick s = .next (tickCmd Config.env s) := rfl

/-- Settles O22: none of the fields lies in the part DP writes. -/
theorem tickFrame : Obligations.TickFrame := by
  intro s
  refine ⟨tickCmd Config.env s, exec_tick s, ?_⟩
  simpa only [hostPart, Prod.mk.injEq] using tickCmd_hostPart Config.env s

/-! ### DP and `TXBUF` -/

/-- The state with another content of `TXBUF`. -/
def withTxBuf (v : Vector Byte 8) (s : State) : State := { s with txBuf := v }

theorem dpSend_withTxBuf (E : Env) (payload v : Vector Byte 8) (s : State) :
    dpSend E payload (withTxBuf v s) = withTxBuf v (dpSend E payload s) := by
  cases h : s.status.opened with
  | false => rw [dpSend_closed _ _ _ h, dpSend_closed _ _ (withTxBuf v s) h]
  | true =>
    rw [dpSend_open _ _ _ h, dpSend_open _ _ (withTxBuf v s) h, btSend_eq, btSend_eq]
    rfl

theorem dpRecv_withTxBuf (E : Env) (id : FrameId) (len : Nat) (v : Vector Byte 8) (s : State) :
    dpRecv E id len (withTxBuf v s) = withTxBuf v (dpRecv E id len s) := by
  by_cases h : s.status.opened = true ∧ len ≤ 8
  · obtain ⟨hopen, hlen⟩ := h
    have hpoll : recvPoll E id len (withTxBuf v s) = recvPoll E id len s := by rw [recvPoll_eq, recvPoll_eq]; rfl
    rw [dpRecv_open _ _ _ _ hopen hlen, dpRecv_open _ _ _ (withTxBuf v s) hopen hlen, btRecv_eq, btRecv_eq, hpoll]
    rfl
  · rw [dpRecv_skipped _ _ _ _ h, dpRecv_skipped _ _ _ (withTxBuf v s) h]
    rfl

/-- An entry action takes its frames from the catalog and `ACT` (R171 to R185). -/
theorem entry_withTxBuf (E : Env) (target : DpState) (v : Vector Byte 8) (s : State) :
    entry E target (withTxBuf v s) = withTxBuf v (entry E target s) := by
  cases target with
  | nodev | prep | pause | prepCfg | unrecognised => rfl
  | rspId | rspBt | rf2 | rf5 | rf6 => exact dpRecv_withTxBuf ..
  | reqId | reqBt | wc1 | wc2 | wb1 | wb2 => exact dpSend_withTxBuf ..

theorem goto_withTxBuf (E : Env) (target : DpState) (v : Vector Byte 8) (s : State) :
    goto E target (withTxBuf v s) = withTxBuf v (goto E target s) :=
  entry_withTxBuf E target v { s with state := target, tLast := s.time }

/-- A gate passes another content of `TXBUF` on to both of its branches. -/
theorem gate_withTxBuf {c : Prop} [Decidable c] {v : Vector Byte 8} {a b a' b' : State} (ha : a' = withTxBuf v a)
    (hb : b' = withTxBuf v b) : (if c then a' else b') = withTxBuf v (if c then a else b) := by
  rw [ha, hb, apply_ite (withTxBuf v)]

theorem deviceLost_withTxBuf (E : Env) (v : Vector Byte 8) (s : State) :
    deviceLost E (withTxBuf v s) = withTxBuf v (deviceLost E s) := goto_withTxBuf E .nodev v s

/-- The gates read the time, the counts and the flags, and the decodes read `RXBUF`, so a TICK goes the same way
whatever is in `TXBUF` (R155, R200). -/
theorem tickCmd_withTxBuf (E : Env) (v : Vector Byte 8) (s : State) :
    tickCmd E (withTxBuf v s) = withTxBuf v (tickCmd E s) := by
  have go (target : DpState) (pre : State) := goto_withTxBuf E target v pre
  have lost := deviceLost_withTxBuf E v s
  have hst : (withTxBuf v s).state = s.state := rfl
  unfold tickCmd
  rw [hst]
  cases s.state with
  | nodev | reqId | reqBt | prep | prepCfg | wc1 | wc2 | wb1 | wb2 => exact gate_withTxBuf (go _ s) rfl
  | rspId =>
    have next := go .reqId { s with cand := s.cand + 1 }
    have found := go .reqBt { s with devIdx := s.cand, status := { s.status with available := true } }
    exact gate_withTxBuf (gate_withTxBuf (gate_withTxBuf (go .nodev s) next) found) rfl
  | rspBt => exact gate_withTxBuf (gate_withTxBuf lost (go .prep (decodeBatteryType E s))) rfl
  | rf2 => exact gate_withTxBuf (gate_withTxBuf lost (go .rf5 (decode2 E s))) rfl
  | rf5 => exact gate_withTxBuf (gate_withTxBuf lost (go .rf6 (decode5 E s))) rfl
  | rf6 => exact gate_withTxBuf (gate_withTxBuf lost (go .pause (decode6 E s))) rfl
  | pause => exact gate_withTxBuf (gate_withTxBuf (go .prepCfg s) rfl) (gate_withTxBuf (go .prep s) rfl)
  | unrecognised => exact go .nodev s

/-- Settles O55: `TXBUF` is in the Host's part, and another content of it leaves the TICK as it is. -/
theorem dpIgnoresTxbuf : Obligations.DpIgnoresTxbuf := by
  intro s v
  have htick := congrArg (Host.Outcome.next (φ := Fault) (ρ := Refusal)) (tickCmd_withTxBuf Config.env v s)
  exact ⟨tickCmd Config.env s, exec_tick s, congrArg Prod.fst (tickCmd_hostPart Config.env s), htick⟩

/-! ### The transition graph -/

theorem unrecognised_not_mem_successors (st : DpState) : .unrecognised ∉ successors st := by
  cases st <;> decide

/-- Every edge of R170's graph keeps whether a device is known, but the match in `ST_RSPID` and the way back to
`ST_NODEV` (R188). -/
theorem deviceKnown_successor {st target : DpState} (h : target ∈ successors st) (hr : st ≠ .rspId)
    (hn : target ≠ .nodev) : deviceKnown target = deviceKnown st := by
  cases st <;> grind [successors, deviceKnown]

/-- Code 15 leaves for `ST_NODEV` whatever the time (R186). -/
theorem tickCmd_unrecognised (E : Env) (s : State) (h : s.state = .unrecognised) : tickCmd E s = goto E .nodev s := by
  simp [tickCmd, h, tickUnrecognised]

/-- Settles O37: a TICK that moves goes to a successor, and in code 15 it always moves. -/
theorem tickFollowsTheTransitionGraph : Obligations.TickFollowsTheTransitionGraph := by
  intro s
  refine ⟨tickCmd Config.env s, exec_tick s, ?_⟩
  obtain h | ⟨target, pre, hgoto, hsucc, -, -⟩ := tickCmd_goto Config.env s
  · refine ⟨.inl h, fun hcode => ?_⟩
    rw [h] at hcode
    have hnodev : (tickCmd Config.env s).state = .nodev := by rw [tickCmd_unrecognised _ s hcode, goto_state]
    rw [h, hcode] at hnodev
    exact DpState.noConfusion hnodev
  · rw [hgoto, goto_state]
    exact ⟨.inr hsucc, fun hcode => unrecognised_not_mem_successors s.state (hcode ▸ hsucc)⟩

/-! ### What a written command does -/

theorem exec_reserved {i : Instr} (h : i ∈ [Instr.reservedOp0, .reservedOp8, .reservedOp9, .reservedOp10,
    .reservedOp11, .reservedOp12, .reservedOp13, .reservedOp14, .reservedOp15]) (s : State) :
    exec i s = .next (refuse s) := by
  simp only [List.mem_cons, List.not_mem_nil, or_false] at h
  obtain rfl | rfl | rfl | rfl | rfl | rfl | rfl | rfl | rfl := h <;> rfl

/-- A command word is refused, configures the transport, runs one bus operation, is a TICK, or writes one of the two
settings of DP (R96, R240). -/
theorem exec_decodeCmd_cases {w : Word32} {s t : State} (h : exec (decodeCmd w) s = .next t) :
    t = refuse s ∨ (∃ baud, t = openCmd Config.env baud s) ∨ BusOp s t ∨
      (decodeCmd w = .tick ∧ t = tickCmd Config.env s) ∨ (∃ cap btype, t = reqcfgCmd cap btype s) ∨
      ∃ en, t = sethsCmd en s := by
  have next {u : State} (hu : exec (decodeCmd w) s = .next u) : t = u := Host.Outcome.next.inj (h.symm.trans hu)
  obtain ⟨hsend, hrecv, hsleep⟩ := transportCmd_cases Config.env s
  obtain ⟨baud, hw⟩ | ⟨id, len, pver, hw⟩ | ⟨id, len, pver, hw⟩ | hw | hw | ⟨cap, btype, hw⟩ | ⟨en, hw⟩ | hw :=
    decodeCmd_cases w
  · exact .inr (.inl ⟨baud, next (by rw [hw]; rfl)⟩)
  · have ht : t = sendCmd Config.env id len pver s := next (by rw [hw]; rfl)
    obtain hc | ⟨-, -, hc⟩ := hsend id len pver
    · exact .inl (ht.trans hc)
    · exact .inr (.inr (.inl (ht.trans hc ▸ btSend_busOp ..)))
  · have ht : t = recvCmd Config.env id len pver s := next (by rw [hw]; rfl)
    obtain hc | ⟨-, hlen, hc⟩ := hrecv id len pver
    · exact .inl (ht.trans hc)
    · exact .inr (.inr (.inl (ht.trans hc ▸ btRecv_busOp _ _ _ _ s hlen)))
  · have ht : t = sleepCmd Config.env s := next (by rw [hw]; rfl)
    obtain hc | ⟨-, hc⟩ := hsleep
    · exact .inl (ht.trans hc)
    · exact .inr (.inr (.inl (ht.trans hc ▸ btSend_busOp ..)))
  · exact .inr (.inr (.inr (.inl ⟨hw, next (by rw [hw, exec_tick])⟩)))
  · exact .inr (.inr (.inr (.inr (.inl ⟨cap, btype, next (by rw [hw]; rfl)⟩))))
  · exact .inr (.inr (.inr (.inr (.inr ⟨en, next (by rw [hw]; rfl)⟩))))
  · exact .inl (next (exec_reserved hw s))

theorem openCmd_state (E : Env) (baud : BitVec 24) (s : State) : (openCmd E baud s).state = s.state := by
  obtain ⟨-, h⟩ | ⟨-, -, h⟩ | ⟨-, -, h⟩ := openCmd_cases E baud s <;> rw [h]

theorem openCmd_wireExtends (E : Env) (baud : BitVec 24) (s : State) : WireExtends s (openCmd E baud s) := by
  obtain ⟨-, h⟩ | ⟨-, -, h⟩ | ⟨-, -, h⟩ := openCmd_cases E baud s
  · rw [h]; exact wireExtends_of_wire_eq rfl
  · rw [h]; exact ⟨_, rfl, rfl⟩
  · rw [h]; exact ⟨_, rfl, rfl⟩

/-- Every command but TICK leaves `STATE` alone (R26). -/
theorem exec_decodeCmd_state {w : Word32} {s t : State} (h : exec (decodeCmd w) s = .next t)
    (hw : decodeCmd w ≠ .tick) : t.state = s.state := by
  obtain rfl | ⟨baud, rfl⟩ | hbus | ⟨htick, -⟩ | ⟨cap, btype, rfl⟩ | ⟨en, rfl⟩ := exec_decodeCmd_cases h
  · rfl
  · exact openCmd_state ..
  · exact hbus.state_eq
  · exact absurd htick hw
  · rfl
  · rfl

/-- Every command only appends to `WIRE`, and brackets what it appends (R35, R70). -/
theorem exec_decodeCmd_wireExtends {w : Word32} {s t : State} (h : exec (decodeCmd w) s = .next t) :
    WireExtends s t := by
  obtain rfl | ⟨baud, rfl⟩ | hbus | ⟨-, rfl⟩ | ⟨cap, btype, rfl⟩ | ⟨en, rfl⟩ := exec_decodeCmd_cases h
  · exact wireExtends_of_wire_eq rfl
  · exact openCmd_wireExtends ..
  · exact hbus.wire
  · exact tickCmd_wireExtends ..
  · exact wireExtends_of_wire_eq rfl
  · exact wireExtends_of_wire_eq rfl

/-- A step runs a command, or it is an action of the Host, the Clock or the Bus that writes nothing of the block but
`TXBUF`, `TIME` and `RXFIFO` (R32, R37, R62, R66). -/
theorem step_command_or_frame {s t : State} (h : step s = .next t) :
    (∃ w rest, s.inputs = .write 0 w :: rest ∧ exec (decodeCmd w) { s with inputs := rest } = .next t) ∨
      t = { s with
        txBuf := t.txBuf, time := t.time, rxFifo := t.rxFifo, inputs := t.inputs, readData := t.readData } := by
  obtain ⟨-, rfl⟩ | hcmd | ⟨r, v, rest, -, -, rfl⟩ | ⟨r, rest, -, rfl⟩ | ⟨d, rest, -, rfl⟩ | ⟨b, rest, -, rfl⟩ :=
    step_cases s t h
  · exact .inr rfl
  · exact .inl hcmd
  · obtain ⟨buf, hbuf⟩ := writeReg_eq r v { s with inputs := rest }
    rw [hbuf]
    exact .inr rfl
  · exact .inr rfl
  · exact .inr rfl
  · exact .inr rfl

/-- Settles O53: of the actions only a command can write `STATE`, and of the commands only TICK. -/
theorem stateChangesOnlyInTick : Obligations.StateChangesOnlyInTick := by
  intro s t hstep hne
  obtain ⟨w, rest, hin, hexec⟩ | hframe := step_command_or_frame hstep
  · refine ⟨w, rest, hin, ?_⟩
    by_contra hw
    have hkeep := exec_decodeCmd_state hexec hw
    exact hne hkeep
  · exact absurd (congrArg State.state hframe) hne

/-- The whole step brackets what it puts in `WIRE`. -/
theorem step_wireExtends {s t : State} (h : step s = .next t) : WireExtends s t := by
  obtain ⟨w, rest, -, hexec⟩ | hframe := step_command_or_frame h
  · have hext := exec_decodeCmd_wireExtends hexec
    exact hext
  · refine wireExtends_of_wire_eq ?_
    rw [hframe]

/-- Settles O54: the commands append bracketed stretches, and no other action writes `WIRE`. -/
theorem wireOnlyGrows : Obligations.WireOnlyGrows := by
  intro s t h
  obtain ⟨events, hwire, -⟩ := step_wireExtends h
  exact ⟨events, hwire⟩

/-! ### The invariant

The fields of `State.Inv` an operation does not write hold of its result as they held before: `{ hs with … }` proves
those that change. -/

theorem State.Inv.after_busOp {E : Env} {s t : State} (hs : s.Inv E) (h : BusOp s t) : t.Inv E := by
  rw [h.frame]
  exact { hs with
    pinReleased := h.pin hs.pinReleased
    wireBracketed := h.wire.bracketed hs.wireBracketed
    rxCountLe := h.rxCountLe hs.rxCountLe
    lastIoLe := h.lastIoLe hs.lastIoLe }

/-- OPEN keeps the pin released and stores the timing values with the baud rate it opens at (R114). -/
theorem State.Inv.after_openCmd {E : Env} {s : State} (hs : s.Inv E) (baud : BitVec 24) :
    (openCmd E baud s).Inv E := by
  have hwire := (openCmd_wireExtends E baud s).bracketed hs.wireBracketed
  obtain ⟨-, h⟩ | ⟨-, -, h⟩ | ⟨hbaud, -, h⟩ := openCmd_cases E baud s
  · rw [h]
    exact { hs with timing := fun hopen => Bool.noConfusion hopen }
  · rw [h] at hwire ⊢
    exact { hs with wireBracketed := hwire, timing := fun hopen => Bool.noConfusion hopen }
  · rw [h] at hwire ⊢
    exact { hs with pinReleased := rfl, wireBracketed := hwire, timing := fun _ => ⟨hbaud, rfl, rfl⟩ }

/-- The entry of `ST_NODEV` clears the selection, so the invariant does not depend on how DP came there (R171). -/
theorem State.Inv.after_goto_nodev {E : Env} {s : State} (hs : s.Inv E) : (goto E .nodev s).Inv E := by
  rw [goto_eq, entry_nodev]
  exact { hs with
    candInCatalog := Nat.zero_lt_of_lt hs.candInCatalog
    recognised := DpState.noConfusion
    availableIffKnown := rfl
    devIdxIsCand := fun _ => rfl
    devIdxCleared := fun _ => rfl
    candCleared := fun _ => rfl }

/-- The entry actions behind `ST_NODEV` keep the invariant, so a `goto` does when writing `STATE` does. -/
theorem goto_inv_of_entered {E : Env} {s : State} {target : DpState} (hn : target ≠ .nodev)
    (hs : (entered target s).Inv E) : (goto E target s).Inv E := by
  rw [goto_eq]
  by_cases hp : target = .prepCfg
  · rw [hp] at hs ⊢
    rw [entry_prepCfg]
    exact { hs with }
  · exact hs.after_busOp (entry_busOp E target _ hn hp)

/-- A `goto` to a recognised state on the same side of the match keeps the invariant (R186, R188). -/
theorem State.Inv.after_goto {E : Env} {s : State} (hs : s.Inv E) {target : DpState} (hn : target ≠ .nodev)
    (hu : target ≠ .unrecognised) (hk : deviceKnown target = deviceKnown s.state) : (goto E target s).Inv E :=
  goto_inv_of_entered hn { hs with
    recognised := hu
    availableIffKnown := hs.availableIffKnown.trans hk.symm
    candCleared := fun h => absurd h hn }

/-- `ST_RSPID` moves the cursor on only inside the catalog (R173). -/
theorem State.Inv.after_nextCandidate {E : Env} {s : State} (hs : s.Inv E) (hst : s.state = .rspId)
    (hlast : ¬E.params.catalog.length ≤ s.cand.toNat + 1) :
    (goto E .reqId { s with cand := s.cand + 1 }).Inv E := by
  have hnone : s.status.available = false := by rw [hs.availableIffKnown, hst]; rfl
  have hcand : (s.cand + 1).toNat ≤ s.cand.toNat + 1 := by
    rw [BitVec.toNat_add]
    exact Nat.mod_le _ _
  exact goto_inv_of_entered DpState.noConfusion { hs with
    candInCatalog := show (s.cand + 1).toNat < _ by omega
    recognised := DpState.noConfusion
    availableIffKnown := hnone
    devIdxIsCand := fun h => absurd (h.symm.trans hnone) Bool.noConfusion
    candCleared := DpState.noConfusion }

/-- A match selects the candidate and makes the device available (R173, R188). -/
theorem State.Inv.after_matchCandidate {E : Env} {s : State} (hs : s.Inv E) :
    (goto E .reqBt { s with devIdx := s.cand, status := { s.status with available := true } }).Inv E :=
  goto_inv_of_entered DpState.noConfusion { hs with
    recognised := DpState.noConfusion
    availableIffKnown := rfl
    devIdxIsCand := fun _ => rfl
    devIdxCleared := Bool.noConfusion
    candCleared := DpState.noConfusion }

/-- The decodes write the snapshot, its two flags and `BATTYPE`, of which the invariant says nothing (R200). -/
theorem State.Inv.after_decodes {E : Env} {s : State} (hs : s.Inv E) :
    (decodeBatteryType E s).Inv E ∧ (decode2 E s).Inv E ∧ (decode5 E s).Inv E ∧ (decode6 E s).Inv E :=
  ⟨{ hs with }, { hs with }, { hs with }, { hs with }⟩

theorem State.Inv.after_tickCmd {E : Env} {s : State} (hs : s.Inv E) : (tickCmd E s).Inv E := by
  obtain ⟨hbt, h2, h5, h6⟩ := hs.after_decodes
  obtain h | ⟨target, pre, hgoto, hsucc, hpre⟩ := tickCmd_cases E s
  · rwa [h]
  rw [hgoto]
  obtain ⟨rfl, hrsp⟩ | ⟨hst, rfl, rfl, hlast⟩ | ⟨-, rfl, rfl⟩ | ⟨hst, rfl, rfl⟩ | ⟨hst, rfl, rfl⟩ |
    ⟨hst, rfl, rfl⟩ | ⟨hst, rfl, rfl⟩ := hpre
  · by_cases hn : target = .nodev
    · subst hn
      exact hs.after_goto_nodev
    · have hu : target ≠ .unrecognised := fun h => unrecognised_not_mem_successors _ (h ▸ hsucc)
      exact hs.after_goto hn hu (deviceKnown_successor hsucc (fun h => hn (hrsp h)) hn)
  · exact hs.after_nextCandidate hst hlast
  · exact hs.after_matchCandidate
  · exact hbt.after_goto DpState.noConfusion DpState.noConfusion (congrArg deviceKnown hst).symm
  · exact h2.after_goto DpState.noConfusion DpState.noConfusion (congrArg deviceKnown hst).symm
  · exact h5.after_goto DpState.noConfusion DpState.noConfusion (congrArg deviceKnown hst).symm
  · exact h6.after_goto DpState.noConfusion DpState.noConfusion (congrArg deviceKnown hst).symm

theorem State.Inv.after_command {w : Word32} {s t : State} (hs : s.Inv Config.env)
    (h : exec (decodeCmd w) s = .next t) : t.Inv Config.env := by
  obtain rfl | ⟨baud, rfl⟩ | hbus | ⟨-, rfl⟩ | ⟨cap, btype, rfl⟩ | ⟨en, rfl⟩ := exec_decodeCmd_cases h
  · exact { hs with }
  · exact hs.after_openCmd baud
  · exact hs.after_busOp hbus
  · exact hs.after_tickCmd
  · exact { hs with }
  · exact { hs with }

/-- Settles O60: only the commands touch the fields the invariant speaks of, and each of them keeps it. -/
theorem everyStepKeepsTheInvariant : Obligations.EveryStepKeepsTheInvariant := by
  intro s t hs hstep
  obtain ⟨w, rest, -, hexec⟩ | hframe := step_command_or_frame hstep
  · have hrest : State.Inv Config.env { s with inputs := rest } := { hs with }
    exact hrest.after_command hexec
  · rw [hframe]
    exact { hs with }

/-- Settles O59: at reset every counter is 0, `WIRE` is empty, and the catalog has a profile (R7, R41). -/
theorem invariantHoldsAtReset : Obligations.InvariantHoldsAtReset where
  pinReleased := rfl
  wireBracketed := rfl
  candInCatalog := List.length_pos_of_ne_nil config_params_ok.1
  recognised := DpState.noConfusion
  availableIffKnown := rfl
  devIdxIsCand := fun _ => rfl
  devIdxCleared := fun _ => rfl
  candCleared := fun _ => rfl
  rxCountLe := by decide
  lastIoLe := by decide
  timing := Bool.noConfusion

end Sys2Proof.Machine
end

section
/-! Proofs for 20_memory.md: a receive takes nothing from what was in `RXFIFO` (R67), and only a command changes what the
Host sees of the block (R62, R69). -/

namespace Sys2Proof.Machine

/-! ### RECV and the bytes already in `RXFIFO` -/

theorem recvCmd_open (E : Env) (id : FrameId) (len : BitVec 4) (pver : BitVec 2) (s : State)
    (hopen : s.status.opened = true) (hlen : len.toNat ≤ 8) :
    recvCmd E id len pver s = btRecv E id len.toNat pver s := by
  have haccept : (s.status.opened && lenOk len) = true := (Bool.and_eq_true _ _).mpr ⟨hopen, (lenOk_iff len).mpr hlen⟩
  exact if_pos haccept

theorem exec_recv (id : FrameId) (len : BitVec 4) (pver : BitVec 2) (s : State) :
    exec (.recv id len pver) s = .next (recvCmd Config.env id len pver s) := rfl

/-- The flush in front of the header empties `RXFIFO`, and the Bus answers `WIRE` (R66, R67). -/
theorem recvPoll_ignores_rxFifo (E : Env) (id : FrameId) (len : Nat) (s : State) (stale : List Byte) :
    recvPoll E id len { s with rxFifo := stale } = recvPoll E id len s := by
  rw [recvPoll_eq, recvPoll_eq]

/-- What a receive leaves in `RXFIFO` comes from its own poll loop, as all it writes (R67, R119). -/
theorem btRecv_ignores_rxFifo (E : Env) (id : FrameId) (len : Nat) (pver : BitVec 2) (s : State) (stale : List Byte) :
    btRecv E id len pver { s with rxFifo := stale } = btRecv E id len pver s := by
  rw [btRecv_eq, btRecv_eq, recvPoll_ignores_rxFifo]
  rfl

/-- Settles O13: both commands are accepted, and the receive they run ignores the earlier content of `RXFIFO`. -/
theorem staleBytesDoNotAffectAReceive : Obligations.StaleBytesDoNotAffectAReceive := by
  intro id len pver s stale hopen hlen
  refine ⟨btRecv Config.env id len.toNat pver s, ?_, ?_⟩
  · rw [exec_recv, recvCmd_open Config.env id len pver s hopen hlen]
  · rw [exec_recv, recvCmd_open Config.env id len pver { s with rxFifo := stale } hopen hlen, btRecv_ignores_rxFifo]

/-! ### What only a command changes -/

/-- Settles O52: a step that runs no command keeps all of the block but `TXBUF`, `TIME` and `RXFIFO`. -/
theorem onlyCommandsChangeStatusAndSnapshot : Obligations.OnlyCommandsChangeStatusAndSnapshot := by
  intro s t hstep hnoCommand
  obtain ⟨w, rest, hin, -⟩ | hframe := step_command_or_frame hstep
  · exact absurd hin (hnoCommand w rest)
  · rw [hframe]
    exact ⟨rfl, rfl, rfl⟩

end Sys2Proof.Machine
end

section
/-! Proofs for 30_encoding.md: the address byte (R83, R84), the round trip of the decoder and the encoder (R95 to R99),
frames (R89), the checksum generator (R85, R112), and the rows of the state codes and battery types (R98, R99). -/

namespace Sys2Proof.Machine

/-! ### The address byte -/

/-- The id stands in the low six bits of its address byte (R83). -/
theorem pid_low_bits (p : Params) (id : FrameId) : (pid p id).extractLsb' 0 6 = id :=
  BitVec.extractLsb'_append_eq_right

/-- The only byte an id is decoded from is its own address byte (R84). -/
theorem pidDecode_eq_some_iff (p : Params) (b : Byte) (id : FrameId) : pidDecode p b = some id ↔ b = pid p id := by
  unfold pidDecode
  constructor
  · intro h
    split at h
    · next hvalid => rw [← Option.some.inj h, hvalid]
    · exact absurd h nofun
  · rintro rfl
    rw [pid_low_bits, if_pos rfl]

theorem pidDecode_pid (p : Params) (id : FrameId) : pidDecode p (pid p id) = some id :=
  (pidDecode_eq_some_iff p (pid p id) id).mpr rfl

theorem pid_injective (p : Params) : Function.Injective (pid p) := fun id id' h => by
  rw [← pid_low_bits p id, h, pid_low_bits]

/-- The valid address bytes are the images of the 64 ids (R84). -/
theorem validAddresses_eq_image (p : Params) :
    (Finset.range 256).filter (fun n => (pidDecode p (BitVec.ofNat 8 n)).isSome) =
      Finset.univ.image (BitVec.toNat ∘ pid p) := by
  ext n
  simp only [Finset.mem_filter, Finset.mem_range, Finset.mem_image, Finset.mem_univ, true_and,
    Option.isSome_iff_exists, pidDecode_eq_some_iff, Function.comp_apply]
  constructor
  · rintro ⟨hn, id, hid⟩
    exact ⟨id, by rw [← hid, BitVec.toNat_ofNat, Nat.mod_eq_of_lt hn]⟩
  · rintro ⟨id, rfl⟩
    exact ⟨(pid p id).isLt, id, BitVec.ofNat_toNat _ _⟩

theorem card_frameId : Fintype.card FrameId = 64 :=
  (Fintype.card_congr (BitVec.equivFin (m := 6)).toEquiv).trans (Fintype.card_fin 64)

/-- Settles O5: the only byte that decodes to an id is its address byte, and 64 ids have 64 of them. -/
theorem pidDecodeInvertsPid : Obligations.PidDecodeInvertsPid := by
  intro p
  refine ⟨pidDecode_pid p, fun b id h => (pidDecode_eq_some_iff p b id).mp h, fun _ _ h => pid_injective p h, ?_⟩
  have hcount := Nat.count_eq_card_filter_range (fun n => (pidDecode p (BitVec.ofNat 8 n)).isSome) 256
  simp only [Nat.count, Bool.decide_eq_true] at hcount
  rw [hcount, validAddresses_eq_image,
    Finset.card_image_of_injective _ (BitVec.toNat_injective.comp (pid_injective p)), Finset.card_univ, card_frameId]

/-- Bits 5:0 of the address byte (R83). -/
theorem pid_getElem_id (p : Params) (id : FrameId) (k : Fin 6) : (pid p id)[k.val] = id[k.val] :=
  (BitVec.getElem_append (x := p.parity id) (y := id) (by omega)).trans (dif_pos k.isLt)

/-- Bits 7:6 of the address byte (R83). -/
theorem pid_getElem_parity (p : Params) (id : FrameId) :
    (pid p id)[6] = (p.parity id)[0] ∧ (pid p id)[7] = (p.parity id)[1] :=
  ⟨(BitVec.getElem_append (x := p.parity id) (y := id) (by omega)).trans (dif_neg (by omega)),
    (BitVec.getElem_append (x := p.parity id) (y := id) (by omega)).trans (dif_neg (by omega))⟩

/-- P0 is the lower of the two parity bits (R83). -/
theorem parityBits_getElem (id : FrameId) : (parityBits id)[0] = parity0 id ∧ (parityBits id)[1] = parity1 id := by
  unfold parityBits
  cases parity0 id <;> cases parity1 id <;> exact ⟨rfl, rfl⟩

/-- Settles O4: the id fills the low part of the byte and the two parity bits the part above it. -/
theorem addressByteHoldsIdAndParityBits : Obligations.AddressByteHoldsIdAndParityBits := by
  intro id
  obtain ⟨hbit6, hbit7⟩ := pid_getElem_parity Config.params id
  obtain ⟨hparity0, hparity1⟩ := parityBits_getElem id
  exact ⟨pid_getElem_id Config.params id, hbit6.trans hparity0, hbit7.trans hparity1⟩

/-! ### The decoder -/

/-- A field of a word is a quotient of the word's number, taken to the field's width (R97). -/
theorem field_eq_ofNat_div (w : Word32) (start len : Nat) :
    w.extractLsb' start len = BitVec.ofNat len (w.toNat / 2 ^ start) := by
  rw [BitVec.extractLsb', Nat.shiftRight_eq_div_pow]

/-- The opcode stands in the four low bits (R95). -/
theorem opcode_toNat (w : Word32) : (w.extractLsb' 0 4).toNat = w.toNat % 16 := BitVec.extractLsb'_toNat 0 4 w

section
variable {w : Word32}

theorem decodeCmd_openBus (hop : (w.extractLsb' 0 4).toNat = 1) : decodeCmd w = .openBus (w.extractLsb' 4 24) := by
  simp only [decodeCmd, hop]

theorem decodeCmd_send (hop : (w.extractLsb' 0 4).toNat = 2) :
    decodeCmd w = .send (w.extractLsb' 4 6) (w.extractLsb' 10 4) (w.extractLsb' 14 2) := by
  simp only [decodeCmd, hop]

theorem decodeCmd_recv (hop : (w.extractLsb' 0 4).toNat = 3) :
    decodeCmd w = .recv (w.extractLsb' 4 6) (w.extractLsb' 10 4) (w.extractLsb' 14 2) := by
  simp only [decodeCmd, hop]

theorem decodeCmd_reqcfg (hop : (w.extractLsb' 0 4).toNat = 6) :
    decodeCmd w = .reqcfg (w.extractLsb' 4 16) (w.extractLsb' 20 2) := by
  simp only [decodeCmd, hop]

theorem decodeCmd_seths (hop : (w.extractLsb' 0 4).toNat = 7) : decodeCmd w = .seths (w.extractLsb' 4 1) := by
  simp only [decodeCmd, hop]

end

/-- Settles O2: the five rows with operands, and the other arms of the decoder's match on the opcode. -/
theorem commandWordDecodesByOpcodeAndFields : Obligations.CommandWordDecodesByOpcodeAndFields := by
  intro w
  simp only [← field_eq_ofNat_div, ← opcode_toNat]
  refine ⟨?_, decodeCmd_openBus, decodeCmd_send, decodeCmd_recv, ?_, ?_, decodeCmd_reqcfg, decodeCmd_seths,
    ?_, ?_, ?_, ?_, ?_, ?_, ?_, ?_⟩
  all_goals
    intro hop
    simp only [decodeCmd, hop]

/-- Settles O3: each word is a literal. -/
theorem sampleWordsDecode : Obligations.SampleWordsDecode :=
  ⟨rfl, rfl, rfl, rfl, rfl, rfl, rfl, rfl, rfl, rfl⟩

/-! ### The encoder -/

/-- A field above the lowest part of a word is a field of the rest of the word. -/
theorem extract_above {v w : Nat} (hi : BitVec v) (lo : BitVec w) (start len : Nat) :
    (hi ++ lo).extractLsb' (w + start) len = hi.extractLsb' start len := by
  rw [BitVec.extractLsb'_append_eq_of_le (Nat.le_add_right w start), Nat.add_sub_cancel_left]

/-- The field that stands directly on the lowest part of a word. -/
theorem extract_next {u v w : Nat} (hi : BitVec u) (x : BitVec v) (lo : BitVec w) :
    (hi ++ x ++ lo).extractLsb' w v = x :=
  (extract_above (hi ++ x) lo 0 v).trans BitVec.extractLsb'_append_eq_right

/-- The opcode of a word the encoder writes (R95). -/
theorem opcode_of_append (hi : BitVec 28) (op : BitVec 4) : ((hi ++ op).extractLsb' 0 4).toNat = op.toNat :=
  congrArg BitVec.toNat BitVec.extractLsb'_append_eq_right

/-- The three operands of SEND and RECV, under either opcode (R97). -/
theorem frameOperands_of_append (id : FrameId) (len : BitVec 4) (pver : BitVec 2) (op : BitVec 4) :
    (0#16 ++ pver ++ len ++ id ++ op).extractLsb' 4 6 = id ∧
    (0#16 ++ pver ++ len ++ id ++ op).extractLsb' 10 4 = len ∧
    (0#16 ++ pver ++ len ++ id ++ op).extractLsb' 14 2 = pver :=
  ⟨extract_next (0#16 ++ pver ++ len) id op,
    (extract_above (0#16 ++ pver ++ len ++ id) op 6 4).trans (extract_next (0#16 ++ pver) len id),
    (extract_above (0#16 ++ pver ++ len ++ id) op 10 2).trans
      ((extract_above (0#16 ++ pver ++ len) id 4 2).trans (extract_next 0#16 pver len))⟩

/-- The operands of REQCFG (R97). -/
theorem reqcfgOperands_of_append (cap : BitVec 16) (btype : BitVec 2) (op : BitVec 4) :
    (0#10 ++ btype ++ cap ++ op).extractLsb' 4 16 = cap ∧ (0#10 ++ btype ++ cap ++ op).extractLsb' 20 2 = btype :=
  ⟨extract_next (0#10 ++ btype) cap op,
    (extract_above (0#10 ++ btype ++ cap) op 16 2).trans (extract_next 0#10 btype cap)⟩

/-- The address byte of an id decodes to the id's row (R84). -/
theorem decodeWire_address (id : FrameId) : decodeWire .address (pid Config.params id) = .ok (.wirePid id) := by
  simp only [decodeWire, pidDecode_pid]

/-- Settles O1, row by row: an operand is read where the encoder put it, and a row without one is a literal. -/
theorem decodeOfEncodeIsTheInstruction : Obligations.DecodeOfEncodeIsTheInstruction := by
  intro i
  cases i with
  | openBus baud =>
    have hrow := decodeCmd_openBus (opcode_of_append (0#4 ++ baud) 1#4)
    have hbaud := extract_next 0#4 baud 1#4
    rw [hbaud] at hrow
    exact congrArg Except.ok hrow
  | send id len pver =>
    obtain ⟨hid, hlen, hpver⟩ := frameOperands_of_append id len pver 2#4
    have hrow := decodeCmd_send (opcode_of_append (0#16 ++ pver ++ len ++ id) 2#4)
    rw [hid, hlen, hpver] at hrow
    exact congrArg Except.ok hrow
  | recv id len pver =>
    obtain ⟨hid, hlen, hpver⟩ := frameOperands_of_append id len pver 3#4
    have hrow := decodeCmd_recv (opcode_of_append (0#16 ++ pver ++ len ++ id) 3#4)
    rw [hid, hlen, hpver] at hrow
    exact congrArg Except.ok hrow
  | reqcfg cap btype =>
    obtain ⟨hcap, hbtype⟩ := reqcfgOperands_of_append cap btype 6#4
    have hrow := decodeCmd_reqcfg (opcode_of_append (0#10 ++ btype ++ cap) 6#4)
    rw [hcap, hbtype] at hrow
    exact congrArg Except.ok hrow
  | seths en =>
    have hrow := decodeCmd_seths (opcode_of_append (0#27 ++ en) 7#4)
    have hen := extract_next 0#27 en 7#4
    rw [hen] at hrow
    exact congrArg Except.ok hrow
  | sleep | tick => rfl
  | reservedOp0 | reservedOp8 | reservedOp9 | reservedOp10 | reservedOp11 | reservedOp12 | reservedOp13 | reservedOp14
  | reservedOp15 => rfl
  | stNodev | stReqid | stRspid | stReqbt | stRspbt | stPrep | stRf2 | stRf5 | stRf6 | stPause | stPrepcfg | stWc1
  | stWc2 | stWb1 | stWb2 | stUnrecognised => rfl
  | btStandard | btGel | btAgm | btUndefined => rfl
  | wireSync => rfl
  | wirePid id => exact decodeWire_address id

/-! ### Frames -/

/-- The two header bytes, then the payload with the checksum (R80). -/
theorem encodeFrame_eq_cons (p : Params) (id : FrameId) (payload : List Byte) (v : BitVec 2) :
    encodeFrame p id payload v = p.sync :: pid p id :: (payload ++ [frameCks p id payload v]) := rfl

theorem decodeFrame_encodeFrame (p : Params) (id : FrameId) (payload : List Byte) (v : BitVec 2)
    (h : payload.length ≤ 8) : decodeFrame p (encodeFrame p id payload v) v = some (id, payload) := by
  have hlength : ¬((encodeFrame p id payload v).length < 3 ∨ 11 < (encodeFrame p id payload v).length) := by
    simp only [encodeFrame, List.length_append, List.length_cons, List.length_nil]
    omega
  unfold decodeFrame
  rw [if_neg hlength, encodeFrame_eq_cons]
  simp [pidDecode_pid]

/-- What decodes is the encoding of what it decodes to: each test of `decodeFrame` fixes a part of the frame. -/
theorem eq_encodeFrame_of_decodeFrame {p : Params} {bytes : List Byte} {v : BitVec 2} {id : FrameId}
    {payload : List Byte} (h : decodeFrame p bytes v = some (id, payload)) :
    payload.length ≤ 8 ∧ bytes = encodeFrame p id payload v := by
  match bytes with
  | [] | [_] => exact absurd h nofun
  | b0 :: b1 :: rest =>
    simp only [decodeFrame, Option.ite_none_left_eq_some, Option.ite_none_right_eq_some] at h
    obtain ⟨hlength, hsync, h⟩ := h
    cases hid : pidDecode p b1 with
    | none => exact absurd (hid ▸ h) nofun
    | some id' =>
      simp only [hid, Option.ite_none_right_eq_some, Option.some.injEq, Prod.mk.injEq] at h
      obtain ⟨hcks, rfl, rfl⟩ := h
      have hrest := List.dropLast_append_getLast? _ hcks
      have haddress := (pidDecode_eq_some_iff p b1 id').mp hid
      simp only [List.length_cons] at hlength
      refine ⟨by rw [List.length_dropLast]; omega, ?_⟩
      rw [encodeFrame_eq_cons, hrest, hsync, haddress]

/-- A frame determines its id, its payload and its checksum (R80, R84). -/
theorem encodeFrame_inj {p : Params} {id id' : FrameId} {payload payload' : List Byte} {v v' : BitVec 2}
    (h : encodeFrame p id payload v = encodeFrame p id' payload' v') :
    id = id' ∧ payload = payload' ∧ frameCks p id payload v = frameCks p id' payload' v' := by
  obtain ⟨hbody, hcks⟩ := List.append_inj' h rfl
  obtain ⟨hheader, hpayload⟩ := List.append_inj hbody rfl
  simp only [List.cons.injEq, and_true, true_and] at hheader hcks
  exact ⟨pid_injective p hheader, hpayload, hcks⟩

/-- Settles O6: a frame decodes under the flags that give its checksum, and to nothing else than what it encodes. -/
theorem decodeFrameInvertsEncodeFrame : Obligations.DecodeFrameInvertsEncodeFrame := by
  intro p
  refine ⟨fun id payload v v' hpayload => ?_, fun bytes v id payload _ _ h => ?_⟩
  · split
    next hcks =>
      have hframe : encodeFrame p id payload v = encodeFrame p id payload v' := by rw [encodeFrame, hcks, encodeFrame]
      rw [hframe]
      exact decodeFrame_encodeFrame p id payload v' hpayload
    next hcks =>
      refine Option.eq_none_iff_forall_ne_some.mpr fun ⟨id', payload'⟩ h => ?_
      obtain ⟨-, hframe⟩ := eq_encodeFrame_of_decodeFrame h
      obtain ⟨rfl, rfl, hsame⟩ := encodeFrame_inj hframe
      exact hcks hsame
  · exact (eq_encodeFrame_of_decodeFrame h).symm

/-! ### The checksum generator -/

/-- The value a sum takes when every carry out of its low byte is added back in: 0 stays 0, and any other sum is
reduced modulo 255 into 1 to 255 (R112 law 2). -/
def endAround (n : Nat) : Nat := if n = 0 then 0 else (n - 1) % 255 + 1

theorem endAround_of_le {n : Nat} (h : n ≤ 255) : endAround n = n := by
  unfold endAround
  split <;> omega

theorem wsumStep_endAround (n : Nat) (b : Byte) : wsumStep (endAround n) b = endAround (n + b.toNat) := by
  have hb := b.isLt
  unfold wsumStep endAround
  split_ifs <;> omega

theorem wsum_eq_endAround (l : List Byte) : wsum l = endAround (l.map BitVec.toNat).sum := by
  induction l using List.reverseRecOn with
  | nil => rfl
  | append_singleton l b ih =>
    rw [wsum_append_singleton, ih, wsumStep_endAround, List.map_append, List.sum_append, List.map_singleton,
      List.sum_singleton]

theorem wsum_le (l : List Byte) : wsum l ≤ 255 := by
  rw [wsum_eq_endAround]
  unfold endAround
  split <;> omega

/-- The two outcomes of a step, without and with the carry (R85). -/
theorem wsumStep_cases (acc : Nat) (b : Byte) :
    wsumStep acc b = acc + b.toNat ∨ (256 ≤ acc + b.toNat ∧ wsumStep acc b = acc + b.toNat - 255) := by
  unfold wsumStep
  split
  next hcarry => exact .inr ⟨hcarry, rfl⟩
  · exact .inl rfl

/-- The bits above the low byte of a sum, added to the low byte (R112 law 4). -/
def foldOnce (n : Nat) : Nat := n % 256 + n / 256

theorem endAround_foldOnce (n : Nat) : endAround (foldOnce n) = endAround n := by
  unfold endAround foldOnce
  split_ifs <;> omega

/-- Folding a sum as long as it is wider than a byte gives its end-around value; each fold makes it smaller. -/
theorem exists_fold_eq_endAround (n : Nat) :
    ∃ k, endAround n = foldOnce^[k] n ∧ ∀ j < k, 256 ≤ foldOnce^[j] n := by
  induction n using Nat.strongRecOn with
  | ind n ih =>
    by_cases hwide : 256 ≤ n
    · have hsmaller : foldOnce n < n := by unfold foldOnce; omega
      obtain ⟨k, hvalue, hbefore⟩ := ih (foldOnce n) hsmaller
      refine ⟨k + 1, (endAround_foldOnce n).symm.trans hvalue, fun j hj => ?_⟩
      cases j with
      | zero => exact hwide
      | succ j => exact hbefore j (Nat.lt_of_succ_lt_succ hj)
    · exact ⟨0, endAround_of_le (by omega), nofun⟩

theorem cks_toNat (l : List Byte) : (cks l).toNat = 255 - wsum l := by
  rw [cks, BitVec.toNat_ofNat, Nat.mod_eq_of_lt (by omega)]

/-- Every byte is the checksum of its complement (R112 law 5). -/
theorem cks_complement (b : Byte) : cks [~~~b] = b := by
  have hb := b.isLt
  have hsum : wsum [~~~b] = 255 - b.toNat := by
    rw [wsum_eq_endAround, List.map_singleton, List.sum_singleton, BitVec.toNat_not, endAround_of_le (by omega)]
  apply BitVec.eq_of_toNat_eq
  rw [cks_toNat, hsum]
  omega

/-- The verifier (R112 law 6): the checksum fills the sum up to 255. -/
theorem wsum_append_cks (l : List Byte) : wsum (l ++ [cks l]) = 255 := by
  have hle := wsum_le l
  rw [wsum_append_singleton, wsumStep, cks_toNat, if_neg (by omega)]
  omega

/-- Settles O7: the closed form of the sum gives the order and the fold, the single step the wrap and the verifier. -/
theorem checksumGeneratorLaws : Obligations.ChecksumGeneratorLaws := by
  refine ⟨fun l b => ?_, wsum_eq_endAround, fun l l' hperm => ?_, fun l => ?_, ⟨fun b => ⟨_, cks_complement b⟩, ?_⟩,
    fun l => ⟨wsum_append_cks l, ?_⟩⟩
  · have hb := b.isLt
    have hle := wsum_le l
    refine ⟨hle, by omega, wsum_le (l ++ [b]), ?_⟩
    rw [wsum_append_singleton]
    exact wsumStep_cases (wsum l) b
  · rw [wsum_eq_endAround, wsum_eq_endAround, (hperm.map BitVec.toNat).sum_nat]
  · rw [wsum_eq_endAround]
    exact exists_fold_eq_endAround _
  · exact ⟨rfl, rfl, rfl⟩
  · rw [cks, wsum_append_cks]
    rfl

/-! ### State codes and battery types -/

theorem decodeState_code (st : DpState) : decodeState st.code = st.instr := by
  cases st <;> rfl

/-- The row of a state code is what a TICK does that finds DP in that state (R151; log 1). -/
theorem exec_instr_of_state (s : State) : exec s.state.instr s = .next (tickCmd Config.env s) := by
  unfold tickCmd
  cases s.state <;> rfl

/-- Settles O18: TICK and the row of the state's code run the same rule. -/
theorem tickRunsTheRowOfItsState : Obligations.TickRunsTheRowOfItsState := by
  intro s
  refine ⟨tickCmd Config.env s, exec_tick s, ?_⟩
  rw [decodeState_code]
  exact exec_instr_of_state s

/-- A guarded send of DP is `SentBy` (R117, R118, R187). -/
theorem sentBy_dpSend (E : Env) (payload : Vector Byte 8) (s : State) :
    SentBy E.params payload s (dpSend E payload s) := by
  unfold SentBy
  split
  next hopen =>
    refine ⟨sendDelay E s, sendDelay_le E s, ?_⟩
    rw [dpSend_open E payload s hopen, btSend_eq, sendEvents_eq]
  next hclosed => exact dpSend_closed E payload s (Bool.eq_false_of_not_eq_true hclosed)

/-- The send of a battery-type code carries the write frame of the matched profile for that code (R185, R220). -/
theorem sentBy_sendBatteryType (c : BitVec 2) (s : State) :
    SentBy Config.params (btWrite Config.params (matched Config.env s) c) s (sendBatteryType Config.env c s) :=
  sentBy_dpSend Config.env (btWrite Config.params (matched Config.env s) c) s

/-- Settles O35: each of the four rows is the send for its code. -/
theorem batteryTypeCodesSendTheirWireByte : Obligations.BatteryTypeCodesSendTheirWireByte := by
  intro s
  exact ⟨⟨_, rfl, sentBy_sendBatteryType 0 s⟩, ⟨_, rfl, sentBy_sendBatteryType 1 s⟩,
    ⟨_, rfl, sentBy_sendBatteryType 2 s⟩, ⟨_, rfl, sentBy_sendBatteryType 3 s⟩⟩

end Sys2Proof.Machine
end

section
/-! Proofs for 40_transport.md: the timing values (R115), the commands OPEN, SEND, SLEEP and RECV (R114 to R124), the
poll loop of a receive (R119, R122); and what R121 and R158 say of a TICK: it does not depend on `RXCKOK`, and the time
it lets pass is bounded. -/

namespace Sys2Proof.Machine

/-! ### Timing values -/

/-- The model's quotient is the library's rounded-up one. -/
theorem ceilDiv_le_iff {a b : Nat} (n : Nat) (hb : 0 < b) : ceilDiv a b ≤ n ↔ a ≤ n * b := by
  have hceil : ceilDiv a b = a ⌈/⌉ b := (Nat.ceilDiv_eq_add_pred_div a b).symm
  rw [hceil, ceilDiv_le_iff_le_mul hb, Nat.mul_comm]

/-- Settles O8: both values are rounded-up quotients, and a bound on a maximum bounds both sides. -/
theorem timingValuesAreRoundedUpQuotients : Obligations.TimingValuesAreRoundedUpQuotients := by
  intro p baud n hbaud hden
  constructor
  · exact ceilDiv_le_iff n hbaud
  · exact max_le_iff.trans (and_congr_right' (ceilDiv_le_iff n (Nat.mul_pos hden hbaud)))

/-! ### OPEN -/

theorem exec_openBus (baud : BitVec 24) (s : State) : exec (.openBus baud) s = .next (openCmd Config.env baud s) := rfl

/-- Settles O9: the three cases of `openCmd`. -/
theorem openConfiguresOrClosesTheTransport : Obligations.OpenConfiguresOrClosesTheTransport := by
  intro baud s
  rw [exec_openBus]
  obtain ⟨hzero, h⟩ | ⟨hbaud, hchannel, h⟩ | ⟨hbaud, hchannel, h⟩ := openCmd_cases Config.env baud s
  · exact ⟨fun _ => congrArg _ h, fun hbaud => absurd hzero hbaud⟩
  · rw [env_baudOk] at hchannel
    refine ⟨fun hzero => absurd hzero hbaud, fun _ => ?_⟩
    rw [h, if_neg (Bool.eq_false_iff.mp hchannel)]
  · rw [env_baudOk] at hchannel
    refine ⟨fun hzero => absurd hzero hbaud, fun _ => ?_⟩
    rw [h, if_pos hchannel]
    rfl

/-! ### SEND and SLEEP -/

theorem sendCmd_open (E : Env) (id : FrameId) (len : BitVec 4) (pver : BitVec 2) (s : State)
    (hopen : s.status.opened = true) (hlen : len.toNat ≤ 8) :
    sendCmd E id len pver s = btSend E id (txPayload s len) pver s := by
  simp [sendCmd, hopen, (lenOk_iff len).mpr hlen]

theorem exec_send (id : FrameId) (len : BitVec 4) (pver : BitVec 2) (s : State) :
    exec (.send id len pver) s = .next (sendCmd Config.env id len pver s) := rfl

/-- Settles O10: the command is accepted, and its send is `btSend_eq`. -/
theorem sendPutsTheFrameOnTheWire : Obligations.SendPutsTheFrameOnTheWire := by
  intro id len pver s hopen hlen
  refine ⟨sendDelay Config.env s, sendDelay_le Config.env s, ?_⟩
  rw [exec_send, sendCmd_open _ id len pver s hopen hlen, btSend_eq, sendEvents_eq]
  rfl

theorem sleepCmd_open (E : Env) (s : State) (hopen : s.status.opened = true) :
    sleepCmd E s = btSend E E.params.diagReqId E.params.sleepPayload.toList 1#2 s := if_pos hopen

theorem sleepCmd_closed (E : Env) (s : State) (hclosed : s.status.opened = false) : sleepCmd E s = refuse s :=
  if_neg (Bool.eq_false_iff.mp hclosed)

theorem exec_sleep (s : State) : exec .sleep s = .next (sleepCmd Config.env s) := rfl

/-- The diagnostic request id takes the classic checksum, whatever the version flag (R85, R113). -/
theorem frameCks_diagReqId (p : Params) (payload : List Byte) (pver : BitVec 2) :
    frameCks p p.diagReqId payload pver = cks payload := by
  simp [frameCks, cover, classic]

/-- Settles O11: SLEEP is a send of its own frame, or the refusal. -/
theorem sleepSendsTheSleepFrame : Obligations.SleepSendsTheSleepFrame := by
  intro s
  rw [exec_sleep]
  constructor
  · intro hopen
    refine ⟨sendDelay Config.env s, sendDelay_le Config.env s, ?_⟩
    rw [sleepCmd_open _ s hopen, btSend_eq, sendEvents_eq, frameCks_diagReqId, env_params]
  · intro hclosed
    rw [sleepCmd_closed _ s hclosed]
    rfl

/-! ### The poll loop -/

/-- Waiting longer adds what arrives of the rest. -/
theorem arrived_append_arrived {w w' : Nat} (h : w ≤ w') (answer : List (Nat × Byte)) :
    arrived w answer ++ arrived w' (notArrived w answer) = arrived w' answer := by
  induction answer with
  | nil => rfl
  | cons a rest ih =>
    by_cases ha : a.1 ≤ w
    · have ha' : a.1 ≤ w' := ha.trans h
      simpa [arrived, notArrived, ha, ha'] using ih
    · simp [arrived, notArrived, ha]

theorem notArrived_notArrived {w w' : Nat} (h : w ≤ w') (answer : List (Nat × Byte)) :
    notArrived w' (notArrived w answer) = notArrived w' answer := by
  induction answer with
  | nil => rfl
  | cons a rest ih =>
    by_cases ha : a.1 ≤ w
    · have ha' : a.1 ≤ w' := ha.trans h
      simpa [notArrived, ha, ha'] using ih
    · simp [notArrived, ha]

theorem arrived_prefix {w w' : Nat} (h : w ≤ w') (answer : List (Nat × Byte)) :
    arrived w answer <+: arrived w' answer :=
  ⟨arrived w' (notArrived w answer), arrived_append_arrived h answer⟩

/-- With room up to `want`, draining cuts all there is after `want` bytes. -/
theorem drain_room_eq {want : Nat} {got : List Byte} (h : got.length ≤ want) (fifo : List Byte) :
    drain (want - got.length) fifo got = ((got ++ fifo).take want, (got ++ fifo).drop want) := by
  rw [drain_eq, List.take_append, List.drop_append, List.take_of_length_le h, List.drop_of_length_le h,
    List.nil_append]

/-- The loop stops at poll `n`: enough bytes have arrived, or the timeout is behind it (R119). -/
def PollDone (fto pollStep len : Nat) (answer : List (Nat × Byte)) (n : Nat) : Prop :=
  len + 1 ≤ (arrived (n * pollStep) answer).length ∨ fto < n * pollStep

theorem stopsAtPoll_iff (fto pollStep len : Nat) (answer : List (Nat × Byte)) (k : Nat) :
    stopsAtPoll fto pollStep len answer k ↔
      PollDone fto pollStep len answer k ∧ ∀ j < k, ¬PollDone fto pollStep len answer j := Iff.rfl

/-- One poll, at which all that has arrived is `all`: it is cut after `want` bytes, and the loop goes on only with fewer
bytes than that and inside the timeout. -/
theorem pollLoop_poll {fto pollStep want fuel waited : Nat} {coming : List (Nat × Byte)} {got all : List Byte}
    (hlen : got.length ≤ want) (hall : got ++ arrived waited coming = all) :
    pollLoop fto pollStep want (fuel + 1) waited [] coming got =
      if want ≤ all.length ∨ fto < waited then (all.take want, all.drop want)
      else pollLoop fto pollStep want fuel (waited + pollStep) [] (notArrived waited coming) all := by
  rw [pollLoop_succ, List.nil_append, drain_room_eq hlen, hall]
  by_cases henough : want ≤ all.length
  · rw [if_pos (List.length_take_of_le henough), if_pos (.inl henough)]
  · have hshort : all.length ≤ want := by omega
    rw [if_neg (by rw [List.length_take]; omega), List.take_of_length_le hshort, List.drop_of_length_le hshort]
    simp only [henough, false_or]

/-- From poll `n` on, with no poll before it the last, the loop runs to the poll it stops at and cuts what has arrived
then after `len + 1` bytes. The fuel lasts, because `n` polls inside the timeout make `n` at most `fto + 1`. -/
theorem pollLoop_stops {fto pollStep len : Nat} {answer : List (Nat × Byte)} (hp : 1 ≤ pollStep) (fuel : Nat) :
    ∀ (n : Nat) (coming : List (Nat × Byte)) (got : List Byte),
      fto + 2 ≤ fuel + n → (∀ j < n, ¬PollDone fto pollStep len answer j) → got.length ≤ len + 1 →
      got ++ arrived (n * pollStep) coming = arrived (n * pollStep) answer →
      notArrived (n * pollStep) coming = notArrived (n * pollStep) answer →
      ∃ k, stopsAtPoll fto pollStep len answer k ∧
        pollLoop fto pollStep (len + 1) fuel (n * pollStep) [] coming got =
          ((arrived (k * pollStep) answer).take (len + 1), (arrived (k * pollStep) answer).drop (len + 1)) := by
  induction fuel with
  | zero =>
    intro n coming got hfuel hbefore
    have hinside : (fto + 1) * pollStep ≤ fto := not_lt.mp fun h => hbefore (fto + 1) (by omega) (.inr h)
    have hsteps : fto + 1 ≤ (fto + 1) * pollStep := Nat.le_mul_of_pos_right _ hp
    omega
  | succ fuel ih =>
    intro n coming got hfuel hbefore hlen hgot hcoming
    rw [pollLoop_poll hlen hgot]
    split
    next hdone => exact ⟨n, ⟨hdone, hbefore⟩, rfl⟩
    next hgoing =>
      have hlater : n * pollStep ≤ (n + 1) * pollStep := Nat.mul_le_mul_right _ (Nat.le_succ n)
      have hshort : (arrived (n * pollStep) answer).length ≤ len + 1 := (not_le.mp fun h => hgoing (.inl h)).le
      rw [hcoming, ← Nat.succ_mul]
      refine ih (n + 1) _ _ (by omega) (fun j hj => ?_) hshort (arrived_append_arrived hlater answer)
        (notArrived_notArrived hlater answer)
      obtain hj | rfl := Nat.lt_succ_iff_lt_or_eq.mp hj
      · exact hbefore j hj
      · exact hgoing

/-- The poll before the last one was inside the timeout (R122). -/
theorem stopsAtPoll_mul_le {fto pollStep len : Nat} {answer : List (Nat × Byte)} {k : Nat}
    (h : stopsAtPoll fto pollStep len answer k) : k * pollStep ≤ fto + pollStep := by
  obtain ⟨-, hbefore⟩ := (stopsAtPoll_iff ..).mp h
  cases k with
  | zero => omega
  | succ j =>
    have hinside : j * pollStep ≤ fto := not_lt.mp fun hlate => hbefore j (Nat.lt_succ_self j) (.inr hlate)
    rw [Nat.succ_mul]
    omega

/-- Where the loop stops it has the first `len + 1` bytes of all it could wait for: either they are there already, or
this is the last poll (R119, R120). -/
theorem take_arrived_of_stopsAtPoll {fto pollStep len : Nat} {answer : List (Nat × Byte)} {k : Nat}
    (hp : 1 ≤ pollStep) (h : stopsAtPoll fto pollStep len answer k) :
    (arrived (k * pollStep) answer).take (len + 1) = answerTaken fto pollStep len answer := by
  have hk : k ≤ fto / pollStep + 1 := by
    rw [← Nat.add_div_right _ hp]
    exact (Nat.le_div_iff_mul_le hp).mpr (stopsAtPoll_mul_le h)
  have hlast : answerTaken fto pollStep len answer =
      (arrived ((fto / pollStep + 1) * pollStep) answer).take (len + 1) := rfl
  obtain ⟨hdone, -⟩ := (stopsAtPoll_iff ..).mp h
  rw [hlast]
  obtain henough | hlate := hdone
  · obtain ⟨more, hmore⟩ := arrived_prefix (Nat.mul_le_mul_right pollStep hk) answer
    rw [← hmore, List.take_append_of_le_length henough]
  · have hbehind : fto / pollStep < k := (Nat.div_lt_iff_lt_mul hp).mpr hlate
    rw [le_antisymm hk hbehind]

/-- The loop whole, from its first poll. -/
theorem pollLoop_eq {fto pollStep : Nat} (len : Nat) (answer : List (Nat × Byte)) (hp : 1 ≤ pollStep) :
    ∃ k, stopsAtPoll fto pollStep len answer k ∧
      pollLoop fto pollStep (len + 1) (fto + 2) 0 [] answer [] =
        (answerTaken fto pollStep len answer, (arrived (k * pollStep) answer).drop (len + 1)) := by
  obtain ⟨k, hstop, hloop⟩ := pollLoop_stops (fto := fto) (len := len) (answer := answer) hp (fto + 2) 0 answer []
    le_rfl nofun (Nat.zero_le _) rfl rfl
  rw [Nat.zero_mul, take_arrived_of_stopsAtPoll hp hstop] at hloop
  exact ⟨k, hstop, hloop⟩

/-- Settles O14: the two parts the loop cuts are the two parts of what has arrived where it stops. -/
theorem pollLoopTakesTheFirstBytesThatArrive : Obligations.PollLoopTakesTheFirstBytesThatArrive := by
  intro fto pollStep len answer hp
  obtain ⟨k, hstop, hloop⟩ := pollLoop_eq (fto := fto) len answer hp
  rw [hloop]
  refine ⟨rfl, k, hstop, stopsAtPoll_mul_le hstop, ?_⟩
  rw [← take_arrived_of_stopsAtPoll hp hstop]
  exact List.take_append_drop _ _

/-! ### RECV -/

/-- A receive of any environment takes the answer to its own header (R119 to R123). -/
theorem receivedBy_btRecv (E : Env) (id : FrameId) (len : Nat) (pver : BitVec 2) (s : State)
    (hp : 1 ≤ E.params.pollStep) : ReceivedBy E id len pver s (btRecv E id len pver s) := by
  obtain ⟨htaken, hleft⟩ := pollLoopTakesTheFirstBytesThatArrive s.fto.toNat E.params.pollStep len
    (E.busAnswer s.draws (s.wire ++ recvEvents E.params id)) hp
  rw [← recvPoll_eq] at htaken hleft
  rw [btRecv_eq]
  unfold ReceivedBy
  simp only [← recvEvents_eq, ← htaken]
  refine ⟨⟨recvDelay E s, recvDelay_le E s, ?_⟩, fun i h9 hi => rxFilled_get E s.draws _ i h9 hi, hleft⟩
  rw [rxCheck, Bool.decide_and]

/-- Settles O12: the command is accepted, and it is a receive in the machine's environment. -/
theorem recvTakesTheAnswer : Obligations.RecvTakesTheAnswer := by
  intro id len pver s hopen hlen
  obtain ⟨-, -, -, -, -, hp, -⟩ := config_params_ok
  refine ⟨btRecv Config.env id len.toNat pver s, ?_, receivedBy_btRecv Config.env id len.toNat pver s hp⟩
  rw [exec_recv, recvCmd_open Config.env id len pver s hopen hlen]

/-! ### The time a TICK lets pass -/

/-- At most R122's bound has passed, and `T_LAST` is as it was. -/
def TimePasses (E : Env) (s t : State) : Prop :=
  ∃ d, d ≤ recvBound E s ∧ t.time = s.time + BitVec.ofNat 32 d ∧ t.tLast = s.tLast

theorem timePasses_of_eq {E : Env} {s t : State} (htime : t.time = s.time) (hlast : t.tLast = s.tLast) :
    TimePasses E s t :=
  ⟨0, Nat.zero_le _, htime.trans (BitVec.add_zero _).symm, hlast⟩

/-- The bound of a receive is the larger one: its header is a send (R118, R122). -/
theorem sendDelay_le_recvBound (E : Env) (s : State) : sendDelay E s ≤ recvBound E s := by
  have hsend := sendDelay_le E s
  unfold recvBound
  omega

theorem dpSend_timePasses (E : Env) (payload : Vector Byte 8) (s : State) : TimePasses E s (dpSend E payload s) := by
  obtain h | ⟨-, h⟩ := dpSend_cases E payload s
  · rw [h]; exact timePasses_of_eq rfl rfl
  · rw [h]; exact ⟨sendDelay E s, sendDelay_le_recvBound E s, rfl, rfl⟩

theorem dpRecv_timePasses (E : Env) (id : FrameId) (len : Nat) (s : State) : TimePasses E s (dpRecv E id len s) := by
  obtain h | ⟨-, -, h⟩ := dpRecv_cases E id len s
  · rw [h]; exact timePasses_of_eq rfl rfl
  · rw [h]; exact ⟨recvDelay E s, recvDelay_le E s, rfl, rfl⟩

/-- An entry action makes at most one call of the transport (R171 to R185). -/
theorem entry_timePasses (E : Env) (target : DpState) (s : State) : TimePasses E s (entry E target s) := by
  obtain ⟨-, h⟩ | ⟨-, h⟩ | ⟨-, -, h | ⟨payload, h⟩ | ⟨id, len, h⟩⟩ := entry_cases E target s
  · rw [h]; exact timePasses_of_eq rfl rfl
  · rw [h]; exact timePasses_of_eq rfl rfl
  · rw [h]; exact timePasses_of_eq rfl rfl
  · rw [h]; exact dpSend_timePasses ..
  · rw [h]; exact dpRecv_timePasses ..

/-- The update a rule makes before its `goto` takes no time and leaves `FTO` (R173, R200, R213). -/
theorem tickCmd_goto_timing (E : Env) (s : State) :
    tickCmd E s = s ∨ ∃ target pre, tickCmd E s = goto E target pre ∧ pre.time = s.time ∧ pre.fto = s.fto := by
  obtain h | ⟨target, pre, hgoto, -, hpre⟩ := tickCmd_cases E s
  · exact .inl h
  · refine .inr ⟨target, pre, hgoto, ?_⟩
    obtain ⟨rfl, -⟩ | ⟨-, -, rfl, -⟩ | ⟨-, -, rfl⟩ | ⟨-, -, rfl⟩ | ⟨-, -, rfl⟩ | ⟨-, -, rfl⟩ | ⟨-, -, rfl⟩ := hpre
    all_goals exact ⟨rfl, rfl⟩

/-- Settles O20: a TICK is at most one `goto`, and only its entry action takes time. -/
theorem tickTimeIsBounded : Obligations.TickTimeIsBounded := by
  intro s
  obtain h | ⟨target, pre, hgoto, htime, hfto⟩ := tickCmd_goto_timing Config.env s
  · exact ⟨s, 0, (exec_tick s).trans (congrArg _ h), Nat.zero_le _, (BitVec.add_zero _).symm, .inl rfl⟩
  · obtain ⟨d, hd, hpassed, hlast⟩ := entry_timePasses Config.env target (entered target pre)
    rw [← goto_eq, ← hgoto] at hpassed hlast
    have hbound : recvBound Config.env (entered target pre) = recvBound Config.env s := by
      simp only [recvBound, entered, hfto]
    rw [hbound] at hd
    exact ⟨tickCmd Config.env s, d, exec_tick s, le_max_of_le_right hd, hpassed.trans (by rw [entered, htime]),
      .inr (hlast.trans htime)⟩

/-! ### DP and `RXCKOK` -/

/-- The state with another `RXCKOK`. -/
def withRxCkOk (b : Bool) (s : State) : State := { s with status := { s.status with rxCkOk := b } }

/-- The two states differ at most in `RXCKOK`. -/
def AgreeButRxCkOk (s t : State) : Prop := withRxCkOk false s = withRxCkOk false t

theorem agree_withRxCkOk (b : Bool) (s : State) : AgreeButRxCkOk s (withRxCkOk b s) := rfl

theorem dpSend_withRxCkOk (E : Env) (payload : Vector Byte 8) (b : Bool) (s : State) :
    dpSend E payload (withRxCkOk b s) = withRxCkOk b (dpSend E payload s) := by
  cases h : s.status.opened with
  | false => rw [dpSend_closed _ _ _ h, dpSend_closed _ _ (withRxCkOk b s) h]
  | true =>
    rw [dpSend_open _ _ _ h, dpSend_open _ _ (withRxCkOk b s) h, btSend_eq, btSend_eq]
    rfl

/-- A receive writes `RXCKOK` anew; one that is skipped leaves it (R121, R187). -/
theorem dpRecv_agree (E : Env) (id : FrameId) (len : Nat) (b : Bool) (s : State) :
    AgreeButRxCkOk (dpRecv E id len s) (dpRecv E id len (withRxCkOk b s)) := by
  by_cases h : s.status.opened = true ∧ len ≤ 8
  · obtain ⟨hopen, hlen⟩ := h
    have hpoll : recvPoll E id len (withRxCkOk b s) = recvPoll E id len s := by rw [recvPoll_eq, recvPoll_eq]; rfl
    rw [dpRecv_open _ _ _ _ hopen hlen, dpRecv_open _ _ _ (withRxCkOk b s) hopen hlen, btRecv_eq, btRecv_eq, hpoll]
    rfl
  · rw [dpRecv_skipped _ _ _ _ h, dpRecv_skipped _ _ _ (withRxCkOk b s) h]
    rfl

/-- An entry action sends and receives, and reads no flag but `OPEN` (R171 to R187). -/
theorem entry_agree (E : Env) (target : DpState) (b : Bool) (s : State) :
    AgreeButRxCkOk (entry E target s) (entry E target (withRxCkOk b s)) := by
  have sends (payload : Vector Byte 8) : AgreeButRxCkOk (dpSend E payload s) (dpSend E payload (withRxCkOk b s)) := by
    rw [dpSend_withRxCkOk]
    exact agree_withRxCkOk b _
  cases target with
  | nodev | prep | pause | prepCfg | unrecognised => rfl
  | rspId | rspBt | rf2 | rf5 | rf6 => exact dpRecv_agree ..
  | reqId | reqBt | wc1 | wc2 | wb1 | wb2 => exact sends _

theorem goto_agree (E : Env) (target : DpState) (b : Bool) (s : State) :
    AgreeButRxCkOk (goto E target s) (goto E target (withRxCkOk b s)) :=
  entry_agree E target b (entered target s)

/-- A gate that does not read `RXCKOK` keeps the agreement of its branches. -/
theorem gate_agree {c : Prop} [Decidable c] {s t s' t' : State} (hs : AgreeButRxCkOk s s') (ht : AgreeButRxCkOk t t') :
    AgreeButRxCkOk (if c then s else t) (if c then s' else t') := by
  split
  · exact hs
  · exact ht

/-- The gates read the time, the counts and three other flags, and a decode reads `RXBUF` without checking it (R155,
R200, R232). -/
theorem tickCmd_agree (E : Env) (b : Bool) (s : State) :
    AgreeButRxCkOk (tickCmd E s) (tickCmd E (withRxCkOk b s)) := by
  have go (target : DpState) (pre : State) := goto_agree E target b pre
  have stay := agree_withRxCkOk b s
  have hst : (withRxCkOk b s).state = s.state := rfl
  unfold tickCmd
  rw [hst]
  cases s.state with
  | nodev | reqId | reqBt | prep | prepCfg | wc1 | wc2 | wb1 | wb2 => exact gate_agree (go _ s) stay
  | rspId =>
    have next := go .reqId { s with cand := s.cand + 1 }
    have found := go .reqBt { s with devIdx := s.cand, status := { s.status with available := true } }
    exact gate_agree (gate_agree (gate_agree (go .nodev s) next) found) stay
  | rspBt => exact gate_agree (gate_agree (go .nodev s) (go .prep (decodeBatteryType E s))) stay
  | rf2 => exact gate_agree (gate_agree (go .nodev s) (go .rf5 (decode2 E s))) stay
  | rf5 => exact gate_agree (gate_agree (go .nodev s) (go .rf6 (decode5 E s))) stay
  | rf6 => exact gate_agree (gate_agree (go .nodev s) (go .pause (decode6 E s))) stay
  | pause => exact gate_agree (gate_agree (go .prepCfg s) stay) (gate_agree (go .prep s) stay)
  | unrecognised => exact go .nodev s

/-- Settles O56: the two TICKs go the same way. -/
theorem dpIgnoresRxckok : Obligations.DpIgnoresRxckok := by
  intro s b
  exact ⟨tickCmd Config.env s, tickCmd Config.env (withRxCkOk b s), exec_tick s, exec_tick _,
    tickCmd_agree Config.env b s⟩

end Sys2Proof.Machine
end

section
/-! Proofs for 41_protocol_commands.md: REQCFG and SETHS (R152, R154), the gates of the states (R155, R158), what a TICK
puts on the wire (R151, R188) and which registers it reaches (R156), and a request made between two TICKs (R152, R180). -/

namespace Sys2Proof.Machine

/-! ### REQCFG and SETHS -/

theorem exec_reqcfg (cap : BitVec 16) (btype : BitVec 2) (s : State) :
    exec (.reqcfg cap btype) s = .next (reqcfgCmd cap btype s) := rfl

theorem reqcfgCmd_eq (cap : BitVec 16) (btype : BitVec 2) (s : State) :
    reqcfgCmd cap btype s = { s with cfg := btype ++ cap, status := { s.status with cfgPending := true } } := rfl

/-- Settles O16: a request is the battery type above the capacity (R34). -/
theorem reqcfgRecordsTheRequest : Obligations.ReqcfgRecordsTheRequest := by
  intro cap btype s
  rw [exec_reqcfg, reqcfgCmd_eq]

theorem exec_seths (en : BitVec 1) (s : State) : exec (.seths en) s = .next (sethsCmd en s) := rfl

/-- A one-bit operand is 1 exactly when its bit is set. -/
theorem decide_eq_one (en : BitVec 1) : decide (en = 1#1) = en[0] := by
  obtain rfl | rfl := BitVec.eq_zero_or_eq_one en <;> rfl

/-- Settles O17: the flag is the operand's bit. -/
theorem sethsWritesHighSpeed : Obligations.SethsWritesHighSpeed := by
  intro en s
  rw [exec_seths, sethsCmd, decide_eq_one]

/-! ### Gates -/

/-- A rule behind a gate that has not passed leaves the state as it is (R155). -/
theorem next_of_gate_shut {gate : Nat} {s t : State} (h : elapsed s < gate) :
    (.next (if gate ≤ elapsed s then t else s) : Host.Outcome State Fault Refusal) = .next s :=
  congrArg _ (if_neg h.not_ge)

/-- `ST_NODEV` waits for the quiet period and for the transport (R171). -/
theorem tickNodev_shut (E : Env) (s : State) (h : elapsed s < E.params.tQuiet ∨ s.status.opened = false) :
    tickNodev E s = s := by
  refine if_neg fun ⟨hquiet, hopen⟩ => ?_
  obtain hshort | hclosed := h
  · exact hshort.not_ge hquiet
  · exact Bool.false_ne_true (hclosed.symm.trans hopen)

/-- The gate of `ST_PAUSE` is the minimum gate with a request pending, else the polling interval (R180). -/
theorem tickPause_shut (E : Env) (s : State)
    (h : elapsed s < if s.status.cfgPending then E.params.tStep
      else if s.status.highSpeed then E.params.tPollHs else E.params.tPoll) : tickPause E s = s := by
  unfold tickPause
  split at h
  · next hpending => rw [if_pos hpending, if_neg h.not_ge]
  · next hidle => rw [if_neg hidle, if_neg h.not_ge]

/-- Settles O33: thirteen rows are a rule behind one gate, `ST_NODEV` and `ST_PAUSE` have gates of their own. -/
theorem gatesHoldEveryStateBack : Obligations.GatesHoldEveryStateBack := by
  intro s
  refine ⟨fun h => congrArg _ (tickNodev_shut Config.env s h), fun h => ?_, fun h => ?_,
    fun h => congrArg _ (tickPause_shut Config.env s h)⟩
  all_goals
    simp only [List.forall_mem_cons, List.not_mem_nil, false_implies, implies_true, and_true]
    and_intros
    all_goals exact next_of_gate_shut h

theorem elapsed_of_time_eq {s : State} (h : s.time = s.tLast) : elapsed s = 0 := by
  simp [elapsed, h]

/-- Settles O19: a TICK runs the row of its state, and at 0 no gate has passed, as R7 makes each at least 1. -/
theorem tickIsIdempotentAtZeroElapsedTime : Obligations.TickIsIdempotentAtZeroElapsedTime := by
  intro s htime hcode
  obtain ⟨-, -, -, -, -, -, hquiet, hmsg, hpoll, hpollHs, -, hstep⟩ := config_params_ok
  have hzero : (s.time - s.tLast).toNat = 0 := elapsed_of_time_eq htime
  obtain ⟨nodev, behindMsg, behindStep, pause⟩ := gatesHoldEveryStateBack s
  rw [hzero] at nodev behindMsg behindStep pause
  rw [exec_tick, ← exec_instr_of_state]
  cases hst : s.state with
  | nodev => exact nodev (.inl hquiet)
  | reqId | reqBt | wc1 | wc2 | wb1 | wb2 => exact behindMsg hmsg _ (by decide)
  | rspId | rspBt | prep | rf2 | rf5 | rf6 | prepCfg => exact behindStep hstep _ (by decide)
  | pause =>
    refine pause ?_
    split_ifs <;> omega
  | unrecognised => exact absurd hst hcode

/-! ### Breaks on the wire -/

/-- `WIRE` of `t` is that of `s` with events appended that hold at most one break. -/
def AtMostOneBreak (s t : State) : Prop :=
  ∃ events, t.wire = s.wire ++ events ∧ events.countP (· == .brk) ≤ 1

theorem atMostOneBreak_of_wire_eq {s t : State} (h : t.wire = s.wire) : AtMostOneBreak s t :=
  ⟨[], by rw [h, List.append_nil], Nat.zero_le 1⟩

theorem countP_brk_bytes (bytes : List Byte) : (bytes.map WireEvent.byte).countP (· == .brk) = 0 := by
  rw [List.countP_map, List.countP_eq_zero]
  exact fun b _ => by simp

/-- A frame has the one break of its header (R87, R117). -/
theorem countP_brk_sendEvents (p : Params) (id : FrameId) (payload : List Byte) (pver : BitVec 2) :
    (sendEvents p id payload pver).countP (· == .brk) = 1 := by
  rw [sendEvents_eq, List.countP_append, List.countP_append, countP_brk_bytes]
  rfl

/-- A receive sends one header (R87, R119). -/
theorem countP_brk_recvEvents (p : Params) (id : FrameId) : (recvEvents p id).countP (· == .brk) = 1 := rfl

theorem dpSend_atMostOneBreak (E : Env) (payload : Vector Byte 8) (s : State) :
    AtMostOneBreak s (dpSend E payload s) := by
  obtain h | ⟨-, h⟩ := dpSend_cases E payload s
  · rw [h]; exact atMostOneBreak_of_wire_eq rfl
  · rw [h]; exact ⟨_, rfl, (countP_brk_sendEvents ..).le⟩

theorem dpRecv_atMostOneBreak (E : Env) (id : FrameId) (len : Nat) (s : State) :
    AtMostOneBreak s (dpRecv E id len s) := by
  obtain h | ⟨-, -, h⟩ := dpRecv_cases E id len s
  · rw [h]; exact atMostOneBreak_of_wire_eq rfl
  · rw [h]; exact ⟨_, rfl, (countP_brk_recvEvents ..).le⟩

/-- An entry action makes at most one call of the transport (R171 to R185). -/
theorem entry_atMostOneBreak (E : Env) (target : DpState) (s : State) : AtMostOneBreak s (entry E target s) := by
  obtain ⟨-, h⟩ | ⟨-, h⟩ | ⟨-, -, h | ⟨payload, h⟩ | ⟨id, len, h⟩⟩ := entry_cases E target s
  · rw [h]; exact atMostOneBreak_of_wire_eq rfl
  · rw [h]; exact atMostOneBreak_of_wire_eq rfl
  · rw [h]; exact atMostOneBreak_of_wire_eq rfl
  · rw [h]; exact dpSend_atMostOneBreak ..
  · rw [h]; exact dpRecv_atMostOneBreak ..

/-- Settles O21: a TICK is at most one `goto`, and only its entry action writes `WIRE`. -/
theorem tickSendsAtMostOneBreak : Obligations.TickSendsAtMostOneBreak := by
  intro s
  obtain h | ⟨target, pre, hgoto, -, -, hwire⟩ := tickCmd_goto Config.env s
  · obtain ⟨events, hevents⟩ := atMostOneBreak_of_wire_eq (congrArg State.wire h)
    exact ⟨tickCmd Config.env s, events, exec_tick s, hevents⟩
  · obtain ⟨events, hext, hcount⟩ := entry_atMostOneBreak Config.env target (entered target pre)
    rw [← goto_eq, ← hgoto] at hext
    exact ⟨tickCmd Config.env s, events, exec_tick s, hext.trans (congrArg (· ++ events) hwire), hcount⟩

/-! ### What each state decodes -/

/-- What the decodes write: the snapshot with its two flags, and `BATTYPE` (R23, R34). -/
def decoded (s : State) := (s.snap, s.status.errFlag, s.status.calibrated, s.battType)

/-- What the entry of `ST_PREPCFG` writes (R181). -/
def captured (s : State) := (s.act, s.status.cfgPending)

theorem goto_decoded (E : Env) (target : DpState) (s : State) : decoded (goto E target s) = decoded s := by
  rw [goto_eq]
  exact entry_induction (motive := fun t => decoded t = decoded s) E target (entered target s) rfl rfl
    fun t h => by rw [h.frame]; rfl

theorem goto_captured (E : Env) {target : DpState} (hp : target ≠ .prepCfg) (s : State) :
    captured (goto E target s) = captured s := by
  rw [goto_eq]
  by_cases hn : target = .nodev
  · rw [hn, entry_nodev]; rfl
  · rw [(entry_busOp E target (entered target s) hn hp).frame]; rfl

/-- Only `ST_PAUSE` leads to `ST_PREPCFG` (R170, R181). -/
theorem prepCfg_not_mem_successors {st : DpState} (h : st ≠ .pause) : .prepCfg ∉ successors st := by
  cases st with
  | pause => exact absurd rfl h
  | _ => decide

theorem tickCmd_captured (E : Env) {s : State} (h : s.state ≠ .pause) : captured (tickCmd E s) = captured s := by
  obtain hstay | ⟨target, pre, hgoto, hsucc, hpre⟩ := tickCmd_cases E s
  · rw [hstay]
  · have hp : target ≠ .prepCfg := fun ht => prepCfg_not_mem_successors h (ht ▸ hsucc)
    rw [hgoto, goto_captured E hp]
    obtain ⟨rfl, -⟩ | ⟨-, -, rfl, -⟩ | ⟨-, -, rfl⟩ | ⟨-, -, rfl⟩ | ⟨-, -, rfl⟩ | ⟨-, -, rfl⟩ | ⟨-, -, rfl⟩ := hpre
    all_goals rfl

/-- A TICK decodes what its state decodes, and nothing in any other state (R175, R177 to R179). -/
theorem tickCmd_decoded (E : Env) (s : State) :
    decoded (tickCmd E s) = decoded s ∨
    (s.state = .rspBt ∧ decoded (tickCmd E s) = decoded (decodeBatteryType E s)) ∨
    (s.state = .rf2 ∧ decoded (tickCmd E s) = decoded (decode2 E s)) ∨
    (s.state = .rf5 ∧ decoded (tickCmd E s) = decoded (decode5 E s)) ∨
    (s.state = .rf6 ∧ decoded (tickCmd E s) = decoded (decode6 E s)) := by
  obtain hstay | ⟨target, pre, hgoto, -, hpre⟩ := tickCmd_cases E s
  · exact .inl (by rw [hstay])
  · rw [hgoto, goto_decoded]
    obtain ⟨rfl, -⟩ | ⟨-, -, rfl, -⟩ | ⟨-, -, rfl⟩ | ⟨hst, -, rfl⟩ | ⟨hst, -, rfl⟩ | ⟨hst, -, rfl⟩ | ⟨hst, -, rfl⟩ :=
      hpre
    · exact .inl rfl
    · exact .inl rfl
    · exact .inl rfl
    · exact .inr (.inl ⟨hst, rfl⟩)
    · exact .inr (.inr (.inl ⟨hst, rfl⟩))
    · exact .inr (.inr (.inr (.inl ⟨hst, rfl⟩)))
    · exact .inr (.inr (.inr (.inr ⟨hst, rfl⟩)))

/-- Settles O23: each decode writes the registers of its own frame, and a request is captured on the way out of
`ST_PAUSE` alone. -/
theorem snapshotChangesOnlyInItsOwnFrame : Obligations.SnapshotChangesOnlyInItsOwnFrame := by
  intro s
  have hrequest (h : s.state ≠ .pause) := tickCmd_captured Config.env h
  have hdecode := tickCmd_decoded Config.env s
  simp only [captured, decoded, Prod.mk.injEq] at hrequest hdecode
  refine ⟨tickCmd Config.env s, exec_tick s, ?_⟩
  obtain ⟨hsnap, herr, hcal, hbatt⟩ | ⟨hst, hsnap, herr, hcal, hbatt⟩ | ⟨hst, hsnap, herr, hcal, hbatt⟩ |
    ⟨hst, hsnap, herr, hcal, hbatt⟩ | ⟨hst, hsnap, herr, hcal, hbatt⟩ := hdecode
  all_goals rw [hsnap, herr, hcal, hbatt]
  · simpa using hrequest
  · simpa [hst, decodeBatteryType] using hrequest
  · simpa [hst, decode2] using hrequest
  · simpa [hst, decode5] using hrequest
  · simpa [hst, decode6] using hrequest

/-! ### A request between two TICKs -/

/-- A gate passes a request on to both of its branches. -/
theorem gate_reqcfgCmd {c : Prop} [Decidable c] {cap : BitVec 16} {btype : BitVec 2} {a b a' b' : State}
    (ha : a' = reqcfgCmd cap btype a) (hb : b' = reqcfgCmd cap btype b) :
    (if c then a' else b') = reqcfgCmd cap btype (if c then a else b) := by
  rw [ha, hb, apply_ite (reqcfgCmd cap btype)]

section
variable (E : Env) (cap : BitVec 16) (btype : BitVec 2)

theorem dpSend_reqcfgCmd (payload : Vector Byte 8) (s : State) :
    dpSend E payload (reqcfgCmd cap btype s) = reqcfgCmd cap btype (dpSend E payload s) := by
  cases h : s.status.opened with
  | false => rw [dpSend_closed _ _ _ h, dpSend_closed _ _ (reqcfgCmd cap btype s) h]
  | true =>
    rw [dpSend_open _ _ _ h, dpSend_open _ _ (reqcfgCmd cap btype s) h, btSend_eq, btSend_eq]
    rfl

theorem recvPoll_reqcfgCmd (id : FrameId) (len : Nat) (s : State) :
    recvPoll E id len (reqcfgCmd cap btype s) = recvPoll E id len s := by
  rw [recvPoll_eq, recvPoll_eq]
  rfl

theorem dpRecv_reqcfgCmd (id : FrameId) (len : Nat) (s : State) :
    dpRecv E id len (reqcfgCmd cap btype s) = reqcfgCmd cap btype (dpRecv E id len s) := by
  by_cases h : s.status.opened = true ∧ len ≤ 8
  · obtain ⟨hopen, hlen⟩ := h
    rw [dpRecv_open _ _ _ _ hopen hlen, dpRecv_open _ _ _ (reqcfgCmd cap btype s) hopen hlen, btRecv_eq, btRecv_eq,
      recvPoll_reqcfgCmd]
    rfl
  · rw [dpRecv_skipped _ _ _ _ h, dpRecv_skipped _ _ _ (reqcfgCmd cap btype s) h]
    rfl

/-- The entry of `ST_PREPCFG` alone reads the request; the frames of a configuration write are built from `ACT`
(R181 to R185). -/
theorem goto_reqcfgCmd {target : DpState} (hp : target ≠ .prepCfg) (s : State) :
    goto E target (reqcfgCmd cap btype s) = reqcfgCmd cap btype (goto E target s) := by
  cases target with
  | prepCfg => exact absurd rfl hp
  | nodev | prep | pause | unrecognised => rfl
  | rspId | rspBt | rf2 | rf5 | rf6 => exact dpRecv_reqcfgCmd E cap btype _ _ (entered _ s)
  | reqId | reqBt | wc1 | wc2 | wb1 | wb2 => exact dpSend_reqcfgCmd E cap btype _ (entered _ s)

/-- The gates of every state but `ST_PAUSE` read neither `CFG` nor `CFG_PENDING` (R155, R180). -/
theorem tickCmd_reqcfgCmd (s : State) (h : s.state ≠ .pause) :
    tickCmd E (reqcfgCmd cap btype s) = reqcfgCmd cap btype (tickCmd E s) := by
  have go (target : DpState) (pre : State) (hp : target ≠ .prepCfg) := goto_reqcfgCmd E cap btype hp pre
  have lost := go .nodev s (by decide)
  have hst : (reqcfgCmd cap btype s).state = s.state := rfl
  unfold tickCmd
  rw [hst]
  cases hs : s.state with
  | pause => exact absurd hs h
  | nodev | reqId | reqBt | prep | prepCfg | wc1 | wc2 | wb1 | wb2 => exact gate_reqcfgCmd (go _ s (by decide)) rfl
  | rspId =>
    have next := go .reqId { s with cand := s.cand + 1 } (by decide)
    have found := go .reqBt { s with devIdx := s.cand, status := { s.status with available := true } } (by decide)
    exact gate_reqcfgCmd (gate_reqcfgCmd (gate_reqcfgCmd lost next) found) rfl
  | rspBt => exact gate_reqcfgCmd (gate_reqcfgCmd lost (go .prep (decodeBatteryType E s) (by decide))) rfl
  | rf2 => exact gate_reqcfgCmd (gate_reqcfgCmd lost (go .rf5 (decode2 E s) (by decide))) rfl
  | rf5 => exact gate_reqcfgCmd (gate_reqcfgCmd lost (go .rf6 (decode5 E s) (by decide))) rfl
  | rf6 => exact gate_reqcfgCmd (gate_reqcfgCmd lost (go .pause (decode6 E s) (by decide))) rfl
  | unrecognised => exact lost

end

/-- Settles O24: outside `ST_PAUSE` REQCFG and TICK can be exchanged. -/
theorem reqcfgDoesNotDisturbTickOutsidePause : Obligations.ReqcfgDoesNotDisturbTickOutsidePause := by
  intro cap btype s h
  refine ⟨tickCmd Config.env s, exec_tick s, ?_⟩
  rw [← reqcfgCmd_eq, ← reqcfgCmd_eq, exec_tick, tickCmd_reqcfgCmd Config.env cap btype s h]

end Sys2Proof.Machine
end

section
/-! Proofs for 42_protocol_states.md: the rule of each state (R171 to R187), and three runs of TICK: discovery on a
silent bus (R188), discovery on a bus that answers one candidate (R173), and the configuration write (R185). -/

namespace Sys2Proof.Machine

/-! ### What a state enters with -/

/-- A guarded receive of DP is `LastIoReceivedBy` (R119 to R123, R187). -/
theorem lastIoReceivedBy_dpRecv (E : Env) (id : FrameId) (len : Nat) (s : State) (hp : 1 ≤ E.params.pollStep) :
    LastIoReceivedBy E id len s (dpRecv E id len s) := by
  unfold LastIoReceivedBy
  split
  next h =>
    obtain ⟨hopen, hlen⟩ := h
    exact ⟨_, receivedBy_btRecv E id len E.params.pverDp s hp, dpRecv_open E id len s hopen hlen⟩
  next h => exact dpRecv_skipped E id len s h

section
variable (E : Env) (s : State)

/-- The states a send enters, each with its frame (R171, R174, R181 to R185). -/
theorem sentBy_goto :
    SentBy E.params (idRequest E.params (candidate E s)) (entered .reqId s) (goto E .reqId s) ∧
    SentBy E.params (btRead E.params (matched E s)) (entered .reqBt s) (goto E .reqBt s) ∧
    SentBy E.params (capRetrieve E.params (matched E s)) (entered .wc1 s) (goto E .wc1 s) ∧
    SentBy E.params (capWrite E.params (matched E s) (cfgCap s.act)) (entered .wc2 s) (goto E .wc2 s) ∧
    SentBy E.params (btRetrieve E.params (matched E s)) (entered .wb1 s) (goto E .wb1 s) ∧
    SentBy E.params (btWrite E.params (matched E s) (cfgBtype s.act)) (entered .wb2 s) (goto E .wb2 s) :=
  ⟨sentBy_dpSend .., sentBy_dpSend .., sentBy_dpSend .., sentBy_dpSend .., sentBy_dpSend .., sentBy_dpSend ..⟩

/-- The states a receive enters, each with the frame it asks for (R173, R175, R177 to R179). -/
theorem lastIoReceivedBy_goto (hp : 1 ≤ E.params.pollStep) :
    LastIoReceivedBy E E.params.diagRspId 8 (entered .rspId s) (goto E .rspId s) ∧
    LastIoReceivedBy E E.params.diagRspId 8 (entered .rspBt s) (goto E .rspBt s) ∧
    LastIoReceivedBy E (matched E s).frame2.id (matched E s).frame2.len (entered .rf2 s) (goto E .rf2 s) ∧
    LastIoReceivedBy E (matched E s).frame5.id (matched E s).frame5.len (entered .rf5 s) (goto E .rf5 s) ∧
    LastIoReceivedBy E (matched E s).frame6.id (matched E s).frame6.len (entered .rf6 s) (goto E .rf6 s) :=
  have recv (id : FrameId) (len : Nat) (t : State) := lastIoReceivedBy_dpRecv E id len t hp
  ⟨recv .., recv .., recv .., recv .., recv ..⟩

end

/-! ### A rule whose gate has passed -/

section
variable {E : Env} {s : State}

theorem tickNodev_passed (hquiet : E.params.tQuiet ≤ elapsed s) (hopen : s.status.opened = true) :
    tickNodev E s = goto E .reqId s := if_pos ⟨hquiet, hopen⟩

theorem tickReqid_passed (h : E.params.tMsg ≤ elapsed s) : tickReqid E s = goto E .rspId s := if_pos h

theorem tickReqbt_passed (h : E.params.tMsg ≤ elapsed s) : tickReqbt E s = goto E .rspBt s := if_pos h

theorem tickPrep_passed (h : E.params.tStep ≤ elapsed s) : tickPrep E s = goto E .rf2 s := if_pos h

theorem tickPrepcfg_passed (h : E.params.tStep ≤ elapsed s) : tickPrepcfg E s = goto E .wc1 s := if_pos h

theorem tickWc1_passed (h : E.params.tMsg ≤ elapsed s) : tickWc1 E s = goto E .wc2 s := if_pos h

theorem tickWc2_passed (h : E.params.tMsg ≤ elapsed s) : tickWc2 E s = goto E .wb1 s := if_pos h

theorem tickWb1_passed (h : E.params.tMsg ≤ elapsed s) : tickWb1 E s = goto E .wb2 s := if_pos h

theorem tickWb2_passed (h : E.params.tMsg ≤ elapsed s) : tickWb2 E s = goto E .reqBt s := if_pos h

/-- No byte, and no candidate is left (R173). -/
theorem tickRspid_last (h : E.params.tStep ≤ elapsed s) (hnone : s.lastIo = 0)
    (hlast : E.params.catalog.length ≤ s.cand.toNat + 1) : tickRspid E s = goto E .nodev s := by
  rw [tickRspid, if_pos h, if_pos hnone, if_pos hlast]

/-- No byte, and the next candidate is asked (R173). -/
theorem tickRspid_next (h : E.params.tStep ≤ elapsed s) (hnone : s.lastIo = 0)
    (hmore : ¬E.params.catalog.length ≤ s.cand.toNat + 1) :
    tickRspid E s = goto E .reqId { s with cand := s.cand + 1 } := by
  rw [tickRspid, if_pos h, if_pos hnone, if_neg hmore]

/-- Any byte is a match (R173). -/
theorem tickRspid_match (h : E.params.tStep ≤ elapsed s) (hany : s.lastIo ≠ 0) :
    tickRspid E s = goto E .reqBt { s with devIdx := s.cand, status := { s.status with available := true } } := by
  rw [tickRspid, if_pos h, if_neg hany]

end

/-! ### The rows of the state codes -/

/-- Code 15 is not gated (R186). -/
theorem exec_stUnrecognised (s : State) : exec .stUnrecognised s = .next (goto Config.env .nodev s) := rfl

/-- Settles O34: the row is `goto(ST_NODEV)`, whose entry action clears the selection. -/
theorem unrecognisedStateGoesToNodev : Obligations.UnrecognisedStateGoesToNodev := by
  intro s
  rw [exec_stUnrecognised, goto_eq, entry_nodev]
  rfl

theorem exec_stPause (s : State) : exec .stPause s = .next (tickPause Config.env s) := rfl

/-- Settles O31: the pending test, then the gate of its branch; neither state entered does anything on the bus. -/
theorem pauseServesARequestOrPolls : Obligations.PauseServesARequestOrPolls := by
  intro s
  rw [exec_stPause]
  simp only [tickPause, apply_ite Host.Outcome.next]
  rfl

/-- Settles O25: the row is the rule, and a rule that leaves `ST_NODEV` enters `ST_REQID`. -/
theorem nodevLeavesAfterTheQuietPeriod : Obligations.NodevLeavesAfterTheQuietPeriod := by
  intro s
  refine ⟨rfl, fun E => ?_⟩
  obtain ⟨hreqId, -⟩ := sentBy_goto E s
  split
  next hgate =>
    obtain ⟨hquiet, hopen⟩ := hgate
    rw [tickNodev_passed hquiet hopen]
    exact hreqId
  next hshut => exact if_neg hshut

/-- Settles O26: each rule is one gate in front of a `goto` that receives. -/
theorem requestStatesReceiveAfterTheirDelay : Obligations.RequestStatesReceiveAfterTheirDelay := by
  intro s
  refine ⟨⟨rfl, rfl, rfl⟩, fun E hE => ?_⟩
  obtain ⟨-, -, -, -, -, hp, -⟩ := hE
  obtain ⟨hrspId, hrspBt, hrf2, -, -⟩ := lastIoReceivedBy_goto E s hp
  refine ⟨fun hmsg => ⟨?_, ?_⟩, fun hstep => ?_⟩
  · rw [tickReqid_passed hmsg]; exact hrspId
  · rw [tickReqbt_passed hmsg]; exact hrspBt
  · rw [tickPrep_passed hstep]; exact hrf2

/-- Settles O27: the three branches of the rule behind its gate. -/
theorem rspidMatchesOrTriesTheNextCandidate : Obligations.RspidMatchesOrTriesTheNextCandidate := by
  intro s
  refine ⟨rfl, fun E hstep => ?_⟩
  obtain ⟨hnext, -⟩ := sentBy_goto E { s with cand := s.cand + 1 }
  obtain ⟨-, hmatch, -⟩ := sentBy_goto E { s with devIdx := s.cand, status := { s.status with available := true } }
  split_ifs with hnone hlast
  · rw [tickRspid_last hstep hnone hlast, goto_eq, entry_nodev]
    rfl
  · rw [tickRspid_next hstep hnone hlast]
    exact hnext
  · rw [tickRspid_match hstep hnone]
    exact hmatch

/-- A state behind `T_STEP` with an answer takes the branch of the answer (R155, R175, R177 to R179). -/
theorem next_of_answer {gate : Nat} {s lost found : State} (hgate : gate ≤ elapsed s) (hio : s.lastIo ≠ 0) :
    (.next (if gate ≤ elapsed s then if s.lastIo = 0 then lost else found else s) :
      Host.Outcome State Fault Refusal) = .next found := by
  rw [if_pos hgate, if_neg hio]

/-- Settles O29: the answer's branch is the decode and `goto(ST_PREP)`, which has no entry action. -/
theorem rspbtKeepsTheBatteryTypeByte : Obligations.RspbtKeepsTheBatteryTypeByte := by
  intro s hstep hio
  exact ⟨rxAt s Config.params.btRspOff.val (by omega), rxAt_toNat .., next_of_answer hstep hio⟩

/-- Settles O30: the answer's branch is the decode and a `goto`; the first two of them receive. -/
theorem telemetryStatesDecodeAndGoOn : Obligations.TelemetryStatesDecodeAndGoOn := by
  intro s hstep hio
  obtain ⟨-, -, -, -, -, hp, -⟩ := config_params_ok
  obtain ⟨-, -, -, hrf5, -⟩ := lastIoReceivedBy_goto Config.env (decode2 Config.env s) hp
  obtain ⟨-, -, -, -, hrf6⟩ := lastIoReceivedBy_goto Config.env (decode5 Config.env s) hp
  exact ⟨⟨_, next_of_answer hstep hio, hrf5⟩, ⟨_, next_of_answer hstep hio, hrf6⟩, next_of_answer hstep hio⟩

/-- Settles O32: each rule is one gate in front of a `goto` that sends. -/
theorem configurationStatesSendTheNextFrame : Obligations.ConfigurationStatesSendTheNextFrame := by
  intro s
  refine ⟨⟨rfl, rfl, rfl, rfl, rfl⟩, fun E => ?_⟩
  obtain ⟨-, hreqBt, hwc1, hwc2, hwb1, hwb2⟩ := sentBy_goto E s
  refine ⟨fun hstep => ?_, fun hmsg => ⟨?_, ?_, ?_, ?_⟩⟩
  · rw [tickPrepcfg_passed hstep]; exact hwc1
  · rw [tickWc1_passed hmsg]; exact hwc2
  · rw [tickWc2_passed hmsg]; exact hwb1
  · rw [tickWb1_passed hmsg]; exact hwb2
  · rw [tickWb2_passed hmsg]; exact hreqBt


/-! ### The pace of a run -/

/-- No more time has passed since the last transition than its entry action can take (R118, R122). -/
def Timely (E : Env) (s : State) : Prop := elapsed s ≤ recvBound E s

theorem timely_of_le_tSendMax {E : Env} {s : State} (h : elapsed s ≤ E.params.tSendMax) : Timely E s := by
  unfold Timely recvBound
  omega

/-- The registers of the Host's part that a run of TICK reads or is asked about. -/
theorem fto_cfg_opened_of_hostPart {s t : State} (h : hostPart t = hostPart s) :
    t.fto = s.fto ∧ t.cfg = s.cfg ∧ t.status.opened = s.status.opened := by
  simp only [hostPart, Prod.mk.injEq] at h
  obtain ⟨-, -, -, hfto, hcfg, -, -, hopen, -, -⟩ := h
  exact ⟨hfto, hcfg, hopen⟩

/-- The pace depends on the state through `FTO` alone. -/
theorem PacedBy.of_hostPart {E : Env} {s t : State} {ds : List Nat} (h : PacedBy E s ds)
    (hpart : hostPart t = hostPart s) : PacedBy E t ds := by
  obtain ⟨hfto, -, -⟩ := fto_cfg_opened_of_hostPart hpart
  unfold PacedBy
  rw [hfto]
  exact h

theorem tickAfter_hostPart (E : Env) (s : State) (d : Nat) : hostPart (tickAfter E s d) = hostPart s :=
  tickCmd_hostPart E (clockAdvance d s)

/-- The first amount of a paced run is paced, and so is the rest of it after that TICK. -/
theorem pacedBy_cons {E : Env} {s : State} {d : Nat} {ds : List Nat} (h : PacedBy E s (d :: ds)) :
    PacedBy E s [d] ∧ PacedBy E (tickAfter E s d) ds := by
  obtain ⟨hd, hds⟩ := List.forall_mem_cons.mp h
  exact ⟨List.forall_mem_singleton.mpr hd, PacedBy.of_hostPart hds (tickAfter_hostPart E s d)⟩

/-- A paced amount of time opens both gates (R155): the elapsed time does not wrap. -/
theorem elapsed_of_paced {E : Env} {s : State} {d : Nat} (ht : Timely E s) (hd : PacedBy E s [d]) :
    E.params.tMsg ≤ elapsed (clockAdvance d s) ∧ E.params.tStep ≤ elapsed (clockAdvance d s) := by
  obtain ⟨hmsg, hstep, hwrap⟩ := List.forall_mem_singleton.mp hd
  unfold Timely recvBound at ht
  rw [elapsed_clockAdvance s d (by omega)]
  omega

/-- A transition starts the elapsed time anew, and its entry action takes at most R122's bound (R153). -/
theorem goto_timely (E : Env) (target : DpState) (s : State) : Timely E (goto E target s) := by
  obtain ⟨d, hd, htime, hlast⟩ := entry_timePasses E target (entered target s)
  obtain ⟨hfto, -, -⟩ := fto_cfg_opened_of_hostPart (goto_hostPart E target s)
  unfold Timely recvBound
  rw [hfto, elapsed, goto_eq, htime, hlast]
  exact (elapsed_le_of_entry _ d).trans hd

/-- Behind `T_MSG` or `T_STEP` a state with one successor goes there at every paced TICK (R170, R172 to R186). -/
theorem tickAfter_single_successor {E : Env} {s : State} {d : Nat} {target : DpState} (hn : s.state ≠ .nodev)
    (hsucc : successors s.state = [target]) (ht : Timely E s) (hd : PacedBy E s [d]) :
    tickAfter E s d = goto E target (clockAdvance d s) := by
  obtain ⟨hmsg, hstep⟩ := elapsed_of_paced ht hd
  unfold tickAfter tickCmd
  rw [clockAdvance_state]
  cases hst : s.state with
  | nodev => exact absurd hst hn
  | rspId | rspBt | rf2 | rf5 | rf6 | pause => simp [hst, successors] at hsucc
  | reqId | reqBt | wc1 | wc2 | wb1 | wb2 =>
    obtain rfl : _ = target := by simpa [hst, successors] using hsucc
    exact if_pos hmsg
  | prep | prepCfg =>
    obtain rfl : _ = target := by simpa [hst, successors] using hsucc
    exact if_pos hstep
  | unrecognised =>
    obtain rfl : _ = target := by simpa [hst, successors] using hsucc
    rfl

/-! ### The configuration write -/

/-- The frame the entry of each state of the configuration write sends to this profile, for this captured request
(R174, R181 to R185). -/
def writeFrame (p : Params) (d : DeviceProfile) (act : BitVec 18) : DpState → Vector Byte 8
  | .wc1 => capRetrieve p d
  | .wc2 => capWrite p d (cfgCap act)
  | .wb1 => btRetrieve p d
  | .wb2 => btWrite p d (cfgBtype act)
  | _ => btRead p d

theorem goto_writeFrame (E : Env) {target : DpState} (s : State)
    (h : target ∈ [DpState.wc1, .wc2, .wb1, .wb2, .reqBt]) :
    goto E target s = dpSend E (writeFrame E.params (matched E s) s.act target) (entered target s) := by
  simp only [List.mem_cons, List.not_mem_nil, or_false] at h
  obtain rfl | rfl | rfl | rfl | rfl := h <;> rfl

/-- The configuration write that began in `s` has reached this state, with these events on the wire. -/
structure Writing (E : Env) (s : State) (st : DpState) (events : List WireEvent) (t : State) : Prop where
  state : t.state = st
  wire : t.wire = s.wire ++ events
  act : t.act = s.act
  devIdx : t.devIdx = s.devIdx
  hostPart : hostPart t = hostPart s
  timely : Timely E t

/-- One more TICK sends the frame of the next state and keeps the captured request. -/
theorem Writing.send {E : Env} {s t : State} {st target : DpState} {events : List WireEvent} {d : Nat}
    (h : Writing E s st events t) (hopen : s.status.opened = true) (hd : PacedBy E s [d]) (hn : st ≠ .nodev)
    (hsucc : successors st = [target]) (hmem : target ∈ [DpState.wc1, .wc2, .wb1, .wb2, .reqBt]) :
    Writing E s target
      (events ++ sendEvents E.params E.params.diagReqId (writeFrame E.params (matched E s) s.act target).toList
        E.params.pverDp)
      (tickAfter E t d) := by
  obtain ⟨hst, hwire, hact, hdev, hpart, htimely⟩ := h
  subst hst
  have hgoto := tickAfter_single_successor hn hsucc htimely (hd.of_hostPart hpart)
  have hkept := (tickAfter_hostPart E t d).trans hpart
  obtain ⟨-, -, ht⟩ := fto_cfg_opened_of_hostPart hpart
  have hlate := goto_timely E target (clockAdvance d t)
  have hmatched : matched E (clockAdvance d t) = matched E s := congrArg (fun i => profile E (BitVec.toNat i)) hdev
  rw [hgoto] at hkept ⊢
  have hsend := goto_writeFrame E (clockAdvance d t) hmem
  rw [hmatched, clockAdvance_act, hact, dpSend_open E _ (entered target (clockAdvance d t)) (ht.trans hopen),
    btSend_eq] at hsend
  refine ⟨goto_state .., ?_, ?_, ?_, hkept, hlate⟩
  · rw [hsend, ← List.append_assoc, ← hwire]
    rfl
  · rw [hsend, ← hact]
    rfl
  · rw [hsend, ← hdev]
    rfl

/-- Settles O40: five TICKs, each of which sends the frame of the state it enters. -/
theorem configurationWriteSendsFourFramesInOrder : Obligations.ConfigurationWriteSendsFourFramesInOrder := by
  intro E s ds _ hst hopen helapsed hlen hpace
  match ds, hlen with
  | [d1, d2, d3, d4, d5], _ =>
    have paced (d : Nat) (hd : d ∈ [d1, d2, d3, d4, d5]) : PacedBy E s [d] :=
      List.forall_mem_singleton.mpr (hpace d hd)
    have start : Writing E s .prepCfg [] s :=
      ⟨hst, (List.append_nil _).symm, rfl, rfl, rfl, timely_of_le_tSendMax helapsed⟩
    have wc1 := start.send (target := .wc1) hopen (paced d1 (by simp)) (by decide) rfl (by decide)
    have wc2 := wc1.send (target := .wc2) hopen (paced d2 (by simp)) (by decide) rfl (by decide)
    have wb1 := wc2.send (target := .wb1) hopen (paced d3 (by simp)) (by decide) rfl (by decide)
    have wb2 := wb1.send (target := .wb2) hopen (paced d4 (by simp)) (by decide) rfl (by decide)
    have reqBt := wb2.send (target := .reqBt) hopen (paced d5 (by simp)) (by decide) rfl (by decide)
    obtain ⟨-, hcfg, -⟩ := fto_cfg_opened_of_hostPart reqBt.hostPart
    refine ⟨reqBt.state, reqBt.act, hcfg, reqBt.wire.trans ?_⟩
    simp only [List.flatMap_cons, List.flatMap_nil, List.append_nil, List.nil_append, List.append_assoc]
    rfl

/-! ### One candidate of discovery -/

/-- Discovery is in this state with candidate `c`, at the pace of its run. -/
structure AtCandidate (E : Env) (st : DpState) (c : Nat) (s : State) : Prop where
  state : s.state = st
  cand : s.cand.toNat = c
  timely : Timely E s

/-- Behind `ST_NODEV` and but for the capture of a request, a `goto` leaves the selection alone (R171 to R185). -/
theorem goto_selection (E : Env) {target : DpState} (hn : target ≠ .nodev) (hp : target ≠ .prepCfg) (s : State) :
    (goto E target s).cand = s.cand ∧ (goto E target s).devIdx = s.devIdx ∧
      (goto E target s).status.available = s.status.available := by
  rw [goto_eq, (entry_busOp E target (entered target s) hn hp).frame]
  exact ⟨rfl, rfl, rfl⟩

/-- The id request of candidate `c` is the last frame on the wire of an open transport. -/
structure Asked (E : Env) (c : Nat) (s : State) : Prop where
  opened : s.status.opened = true
  wire : ∃ w, s.wire = w ++
    sendEvents E.params E.params.diagReqId (idRequest E.params (profile E c)).toList E.params.pverDp

/-- The entry of `ST_REQID` asks the candidate the cursor names (R172, R187). -/
theorem goto_reqId_asks (E : Env) {s : State} {c : Nat} (hcand : s.cand.toNat = c) :
    AtCandidate E .reqId c (goto E .reqId s) ∧ (s.status.opened = true → Asked E c (goto E .reqId s)) := by
  obtain ⟨hkeep, -⟩ := goto_selection E (target := .reqId) (by decide) (by decide) s
  refine ⟨⟨goto_state .., (congrArg BitVec.toNat hkeep).trans hcand, goto_timely ..⟩, fun hopen => ?_⟩
  have hsend : goto E .reqId s = dpSend E (idRequest E.params (profile E s.cand.toNat)) (entered .reqId s) := rfl
  rw [hsend, hcand, dpSend_open E _ (entered .reqId s) hopen, btSend_eq]
  exact ⟨hopen, s.wire, rfl⟩

section
variable {E : Env} {s : State} {c d : Nat}

theorem AtCandidate.tick_rspId (h : AtCandidate E .rspId c s) : tickAfter E s d = tickRspid E (clockAdvance d s) := by
  unfold tickAfter tickCmd
  rw [clockAdvance_state, h.state]

/-- After the id request its response is received (R172). -/
theorem AtCandidate.receive (h : AtCandidate E .reqId c s) (hd : PacedBy E s [d]) :
    tickAfter E s d = goto E .rspId (clockAdvance d s) ∧ AtCandidate E .rspId c (tickAfter E s d) := by
  obtain ⟨hst, hcand, htimely⟩ := h
  have hgoto : tickAfter E s d = goto E .rspId (clockAdvance d s) :=
    tickAfter_single_successor (by simp [hst]) (by rw [hst]; rfl) htimely hd
  obtain ⟨hkeep, -⟩ := goto_selection E (target := .rspId) (by decide) (by decide) (clockAdvance d s)
  rw [hgoto]
  exact ⟨rfl, goto_state .., (congrArg BitVec.toNat hkeep).trans hcand, goto_timely ..⟩

/-- Without a byte the last candidate leads back to `ST_NODEV` (R173). -/
theorem AtCandidate.giveUp (h : AtCandidate E .rspId c s) (hd : PacedBy E s [d]) (hnone : s.lastIo = 0)
    (hlast : E.params.catalog.length ≤ c + 1) : (tickAfter E s d).state = .nodev := by
  obtain ⟨-, hstep⟩ := elapsed_of_paced h.timely hd
  rw [h.tick_rspId, tickRspid_last hstep hnone (h.cand ▸ hlast), goto_state]

/-- Without a byte any other candidate is followed by the next one (R173). -/
theorem AtCandidate.next (h : AtCandidate E .rspId c s) (hd : PacedBy E s [d]) (hnone : s.lastIo = 0)
    (hmore : c + 1 < E.params.catalog.length) (hmax : E.params.catalog.length ≤ 255) :
    AtCandidate E .reqId (c + 1) (tickAfter E s d) ∧
      (s.status.opened = true → Asked E (c + 1) (tickAfter E s d)) := by
  obtain ⟨-, hstep⟩ := elapsed_of_paced h.timely hd
  have hcursor : (s.cand + 1).toNat = c + 1 := by
    rw [BitVec.toNat_add, h.cand]
    exact Nat.mod_eq_of_lt (show c + 1 < 256 by omega)
  rw [h.tick_rspId, tickRspid_next hstep hnone (h.cand.symm ▸ not_le.mpr hmore)]
  exact goto_reqId_asks E (s := { clockAdvance d s with cand := s.cand + 1 }) hcursor

/-- A byte selects the candidate (R173). -/
theorem AtCandidate.found (h : AtCandidate E .rspId c s) (hd : PacedBy E s [d]) (hany : s.lastIo ≠ 0) :
    (tickAfter E s d).state = .reqBt ∧ (tickAfter E s d).devIdx.toNat = c ∧
      (tickAfter E s d).status.available = true := by
  obtain ⟨-, hstep⟩ := elapsed_of_paced h.timely hd
  rw [h.tick_rspId, tickRspid_match hstep hany]
  obtain ⟨-, hdev, havail⟩ := goto_selection E (target := .reqBt) (by decide) (by decide)
    { clockAdvance d s with devIdx := s.cand, status := { s.status with available := true } }
  exact ⟨goto_state .., (congrArg BitVec.toNat hdev).trans h.cand, havail⟩

end

/-- What the receive of the id response counts: the bytes it takes of the Bus's answer, or 0 without a transport
(R119, R173, R187). -/
theorem goto_rspId_lastIo (E : Env) (s : State) (hp : 1 ≤ E.params.pollStep) :
    (goto E .rspId s).lastIo =
      if s.status.opened then
        BitVec.ofNat 4 (answerTaken s.fto.toNat E.params.pollStep 8
          (E.busAnswer s.draws (s.wire ++ recvEvents E.params E.params.diagRspId))).length
      else 0 := by
  have hrecv : goto E .rspId s = dpRecv E E.params.diagRspId 8 (entered .rspId s) := rfl
  split
  next hopen =>
    obtain ⟨htaken, -⟩ := pollLoopTakesTheFirstBytesThatArrive s.fto.toNat E.params.pollStep 8
      (E.busAnswer s.draws (s.wire ++ recvEvents E.params E.params.diagRspId)) hp
    rw [← htaken, hrecv, dpRecv_open _ _ _ (entered .rspId s) hopen le_rfl, btRecv_eq, recvPoll_eq]
    rfl
  next hclosed => rw [hrecv, dpRecv_skipped _ _ _ (entered .rspId s) fun h => hclosed h.1]

/-! ### Discovery on a silent bus -/

/-- A receive on a silent bus counts nothing. -/
theorem goto_rspId_silent {E : Env} (hp : 1 ≤ E.params.pollStep) (hsilent : ∀ n w, E.busAnswer n w = [])
    (s : State) : (goto E .rspId s).lastIo = 0 := by
  rw [goto_rspId_lastIo E s hp, hsilent, ite_eq_right_iff]
  exact fun _ => rfl

/-- The run ends in `ST_NODEV` and was not there before its last TICK. -/
def EndsInNodev (E : Env) (ds : List Nat) (s : State) : Prop :=
  (runTicks E ds s).state = .nodev ∧ ∀ k < ds.length, (runTicks E (ds.take k) s).state ≠ .nodev

theorem EndsInNodev.cons {E : Env} {s : State} {d : Nat} {ds : List Nat} (hst : s.state ≠ .nodev)
    (h : EndsInNodev E ds (tickAfter E s d)) : EndsInNodev E (d :: ds) s := by
  obtain ⟨hend, hbefore⟩ := h
  refine ⟨hend, fun k hk => ?_⟩
  cases k with
  | zero => exact hst
  | succ k => exact hbefore k (Nat.lt_of_succ_lt_succ hk)

/-- From the request to candidate `c`, with `n` more behind it: two TICKs for each of them, by induction on `n`. -/
theorem endsInNodev_of_silent {E : Env} (hp : 1 ≤ E.params.pollStep) (hmax : E.params.catalog.length ≤ 255)
    (hsilent : ∀ n w, E.busAnswer n w = []) (n : Nat) :
    ∀ (c : Nat) (s : State) (ds : List Nat), c + n + 1 = E.params.catalog.length → AtCandidate E .reqId c s →
      ds.length = 2 * (n + 1) → PacedBy E s ds → EndsInNodev E ds s := by
  induction n with
  | zero =>
    intro c s ds hc hreq hlen hpace
    match ds, hlen with
    | [d1, d2], _ =>
      obtain ⟨hd1, hrest⟩ := pacedBy_cons hpace
      obtain ⟨hgoto, hrsp⟩ := hreq.receive hd1
      have hnone : (tickAfter E s d1).lastIo = 0 := by rw [hgoto, goto_rspId_silent hp hsilent]
      have hend := hrsp.giveUp hrest hnone hc.ge
      exact .cons (by simp [hreq.state]) (.cons (by simp [hrsp.state]) ⟨hend, nofun⟩)
  | succ n ih =>
    intro c s ds hc hreq hlen hpace
    match ds, hlen with
    | d1 :: d2 :: ds, hlen =>
      obtain ⟨hd1, hrest⟩ := pacedBy_cons hpace
      obtain ⟨hd2, hds⟩ := pacedBy_cons hrest
      obtain ⟨hgoto, hrsp⟩ := hreq.receive hd1
      have hnone : (tickAfter E s d1).lastIo = 0 := by rw [hgoto, goto_rspId_silent hp hsilent]
      obtain ⟨hnext, -⟩ := hrsp.next hd2 hnone (by omega) hmax
      have hend := ih (c + 1) _ ds (by omega) hnext (Nat.succ.inj (Nat.succ.inj hlen)) hds
      exact .cons (by simp [hreq.state]) (.cons (by simp [hrsp.state]) hend)

/-- A TICK leaves a released pin released (R125). -/
theorem tickCmd_pinReleased (E : Env) {s : State} (h : s.status.txen = false) : (tickCmd E s).status.txen = false := by
  obtain hstay | ⟨target, pre, hgoto, -, hpre⟩ := tickCmd_cases E s
  · rw [hstay, h]
  · have hpin : pre.status.txen = false := by
      obtain ⟨rfl, -⟩ | ⟨-, -, rfl, -⟩ | ⟨-, -, rfl⟩ | ⟨-, -, rfl⟩ | ⟨-, -, rfl⟩ | ⟨-, -, rfl⟩ | ⟨-, -, rfl⟩ := hpre
      all_goals exact h
    rw [hgoto, goto_eq]
    exact entry_induction (motive := fun t => t.status.txen = false) E target (entered target pre) hpin hpin
      fun _ hbus => hbus.pin hpin

theorem runTicks_pinReleased (E : Env) (ds : List Nat) {s : State} (h : s.status.txen = false) :
    (runTicks E ds s).status.txen = false := by
  induction ds generalizing s with
  | nil => exact h
  | cons d ds ih => exact ih (tickCmd_pinReleased E (s := clockAdvance d s) h)

/-- Settles O38, by induction on the candidates that are left. -/
theorem silentBusLeadsBackToNodev : Obligations.SilentBusLeadsBackToNodev := by
  intro E s ds hE hsilent hst hcand hpin helapsed hlen hpace
  obtain ⟨hnonempty, hmax, -, -, -, hp, -⟩ := hE
  obtain ⟨n, hn⟩ := Nat.exists_eq_succ_of_ne_zero (List.length_pos_of_ne_nil hnonempty).ne'
  have hstart : AtCandidate E .reqId 0 s := ⟨hst, by rw [hcand]; rfl, timely_of_le_tSendMax helapsed⟩
  obtain ⟨hend, hbefore⟩ := endsInNodev_of_silent hp hmax hsilent n 0 s ds (by omega) hstart (by omega) hpace
  exact ⟨hend, runTicks_pinReleased E ds hpin, hlen ▸ hbefore⟩

/-! ### Discovery on a bus that answers one candidate -/

/-- The Bus answers the id request of candidate `k` with the byte `b`, and that of no other one (R66, R173). -/
def AnswersOnly (E : Env) (k : Nat) (b : Byte) : Prop :=
  ∀ n w c, c < E.params.catalog.length →
    E.busAnswer n (w ++ sendEvents E.params E.params.diagReqId (idRequest E.params (profile E c)).toList
      E.params.pverDp ++ recvEvents E.params E.params.diagRspId) = if c = k then [(0, b)] else []

/-- The receive after the request to candidate `c` counts the one byte exactly for candidate `k`. -/
theorem Asked.lastIo {E : Env} {s : State} {c k : Nat} {b : Byte} (h : Asked E c s) (hp : 1 ≤ E.params.pollStep)
    (hbus : AnswersOnly E k b) (hc : c < E.params.catalog.length) (d : Nat) :
    (goto E .rspId (clockAdvance d s)).lastIo = if c = k then 1 else 0 := by
  obtain ⟨hopen, w, hwire⟩ := h
  rw [goto_rspId_lastIo E _ hp, clockAdvance_status, hopen, clockAdvance_wire, hwire, hbus _ w c hc]
  rw [if_pos rfl]
  split
  · rfl
  · rfl

/-- From the request to candidate `c`, with `n` more up to `k`: two TICKs for each of them, by induction on `n`. -/
theorem discovery_finds {E : Env} {k : Nat} {b : Byte} (hp : 1 ≤ E.params.pollStep)
    (hmax : E.params.catalog.length ≤ 255) (hk : k < E.params.catalog.length) (hbus : AnswersOnly E k b) (n : Nat) :
    ∀ (c : Nat) (s : State) (ds : List Nat), c + n = k → AtCandidate E .reqId c s → Asked E c s →
      ds.length = 2 * (n + 1) → PacedBy E s ds →
      (runTicks E ds s).state = .reqBt ∧ (runTicks E ds s).devIdx.toNat = k ∧
        (runTicks E ds s).status.available = true := by
  induction n with
  | zero =>
    intro c s ds hc hreq hasked hlen hpace
    match ds, hlen with
    | [d1, d2], _ =>
      obtain ⟨hd1, hrest⟩ := pacedBy_cons hpace
      obtain ⟨hgoto, hrsp⟩ := hreq.receive hd1
      have hany : (tickAfter E s d1).lastIo ≠ 0 := by
        rw [hgoto, hasked.lastIo hp hbus (by omega), if_pos (show c = k from hc)]
        decide
      have hfound := hrsp.found hrest hany
      exact hc ▸ hfound
  | succ n ih =>
    intro c s ds hc hreq hasked hlen hpace
    match ds, hlen with
    | d1 :: d2 :: ds, hlen =>
      obtain ⟨hd1, hrest⟩ := pacedBy_cons hpace
      obtain ⟨hd2, hds⟩ := pacedBy_cons hrest
      obtain ⟨hgoto, hrsp⟩ := hreq.receive hd1
      have hnone : (tickAfter E s d1).lastIo = 0 := by
        rw [hgoto, hasked.lastIo hp hbus (by omega), if_neg (by omega)]
      obtain ⟨hnext, hasks⟩ := hrsp.next hd2 hnone (by omega) hmax
      have hopen : (tickAfter E s d1).status.opened = true := by
        obtain ⟨-, -, hkept⟩ := fto_cfg_opened_of_hostPart (tickAfter_hostPart E s d1)
        rw [hkept, hasked.opened]
      exact ih (c + 1) _ ds (by omega) hnext (hasks hopen) (Nat.succ.inj (Nat.succ.inj hlen)) hds

/-- Settles O39: the first TICK asks candidate 0, and then discovery runs up to candidate `k`. -/
theorem discoverySelectsTheAnsweringCandidate : Obligations.DiscoverySelectsTheAnsweringCandidate := by
  intro E s d0 ds k b hE hk hbus hst hcand hopen hquiet hwrap hlen hpace
  obtain ⟨-, hmax, -, -, -, hp, -⟩ := hE
  have hleave : tickAfter E s d0 = goto E .reqId (clockAdvance d0 s) := by
    have hpassed : E.params.tQuiet ≤ elapsed (clockAdvance d0 s) := by
      rw [elapsed_clockAdvance s d0 hwrap]
      exact hquiet
    unfold tickAfter tickCmd
    rw [clockAdvance_state, hst]
    exact tickNodev_passed hpassed hopen
  have hzero : (clockAdvance d0 s).cand.toNat = 0 := by rw [clockAdvance_cand, hcand]; rfl
  obtain ⟨hstart, hasks⟩ := goto_reqId_asks E hzero
  rw [← hleave] at hstart hasks
  exact discovery_finds hp hmax hk hbus k 0 (tickAfter E s d0) ds (by omega) hstart (hasks hopen) hlen
    (hpace.of_hostPart (tickAfter_hostPart E s d0))

end Sys2Proof.Machine
end

section
/-! Proofs for 43_decode_and_frames.md: the fields of a received frame (R64, R200 to R209), the physical values of the
snapshot (R207, R210) and the bytes of the diagnostic requests (R215 to R220). -/

namespace Sys2Proof.Machine

/-! ### The fields of a received frame -/

/-- A byte below a bit vector: the bits above it count 256 times (R64). -/
theorem toNat_append_byte {n : Nat} (hi : BitVec n) (lo : Byte) : (hi ++ lo).toNat = hi.toNat * 256 + lo.toNat := by
  rw [BitVec.toNat_append, ← Nat.shiftLeft_add_eq_or_of_lt lo.isLt, Nat.shiftLeft_eq]

section
variable (E : Env) (s : State) {len : Nat} (tag : Nat)

theorem field8_toNat {off : Fin 8} (h : off.val < len) : (field8 E s len tag off).toNat = rxByte s off.val := by
  rw [field8, if_pos h, rxAt_toNat]

theorem field16be_toNat {off : Fin 7} (h : off.val + 1 < len) :
    (field16be E s len tag off).toNat = rxByte s off.val * 256 + rxByte s (off.val + 1) := by
  rw [field16be, if_pos h, toNat_append_byte, rxAt_toNat, rxAt_toNat]

theorem field16le_toNat {off : Fin 7} (h : off.val + 1 < len) :
    (field16le E s len tag off).toNat = rxByte s off.val + rxByte s (off.val + 1) * 256 := by
  rw [field16le, if_pos h, toNat_append_byte, rxAt_toNat, rxAt_toNat, Nat.add_comm]

theorem field24_toNat {off : Fin 6} (bigEndian : Bool) (h : off.val + 2 < len) :
    (field24 E s len tag off bigEndian).toNat =
      if bigEndian then rxByte s off.val * 65536 + rxByte s (off.val + 1) * 256 + rxByte s (off.val + 2)
      else rxByte s off.val + rxByte s (off.val + 1) * 256 + rxByte s (off.val + 2) * 65536 := by
  rw [field24, if_pos h]
  cases bigEndian with
  | true => simp only [if_true, toNat_append_byte, rxAt_toNat]; omega
  | false => simp only [Bool.false_eq_true, if_false, toNat_append_byte, rxAt_toNat]; omega

theorem flagField_eq_true_iff {off : Fin 8} (mask : Byte) (h : off.val < len) :
    flagField E s len tag off mask = true ↔ rxByte s off.val &&& mask.toNat ≠ 0 := by
  rw [flagField, if_pos h, bne_iff_ne, BitVec.toNat_ne_iff_ne.symm, BitVec.toNat_and, rxAt_toNat]
  rfl

end

/-! ### The decodes -/

/-- Settles O41: `decode2` writes the four fields from its own frame and nothing else. -/
theorem frame2Decode : Obligations.Frame2Decode := fun E s =>
  ⟨field16be_toNat E s 0, field24_toNat E s 1 _, field8_toNat E s 2, flagField_eq_true_iff E s 3 _, rfl⟩

/-- Settles O42: `decode5` writes the four fields from its own frame and nothing else. -/
theorem frame5Decode : Obligations.Frame5Decode := fun E s =>
  ⟨field8_toNat E s 0, field8_toNat E s 1, field8_toNat E s 2, field16le_toNat E s 3, rfl⟩

/-- Settles O43: `decode6` writes the four fields from its own frame, the capacities as they stand in it, and nothing
else. -/
theorem frame6Decode : Obligations.Frame6Decode := fun E s =>
  ⟨field16le_toNat E s 0, field16le_toNat E s 1, field8_toNat E s 2, flagField_eq_true_iff E s 3 _, rfl⟩

/-! ### The diagnostic requests -/

/-- A patched template holds the new byte at its offset and is unchanged elsewhere (R215). -/
theorem patch_getElem (t : Vector Byte 8) (off : Fin 8) (v : Byte) (k : Fin 8) :
    (patch t off v)[k.val] = if k = off then v else t[k.val] := by
  rw [patch, Vector.getElem_set]
  exact if_congr (by rw [Fin.ext_iff, eq_comm]) rfl rfl

/-- Only the low 8 bits of the capacity reach the wire (R219). -/
theorem setWidth_eq_ofNat_mod (cap : BitVec 16) : cap.setWidth 8 = BitVec.ofNat 8 (cap.toNat % 256) :=
  BitVec.eq_of_toNat_eq (by simp)

theorem btWire_getElem (p : Params) (c : BitVec 2) : p.btWire[c.toNat]'c.isLt = p.btWire.toList.getD c.toNat 0 := by
  simp [c.isLt]

/-- Settles O45: each request is its template patched at `NAD_OFF`, and the two writes once more at the value byte. -/
theorem diagnosticRequestBytes : Obligations.DiagnosticRequestBytes := by
  intro P d cap c k
  refine ⟨patch_getElem .., patch_getElem .., patch_getElem .., patch_getElem .., ?_, ?_⟩
  · rw [capWrite, patch_getElem, patch_getElem, setWidth_eq_ofNat_mod]
  · rw [btWrite, patch_getElem, patch_getElem, btWire_getElem]

/-! ### Physical values -/

section
variable {w : Nat} (x : BitVec w)

/-- A `w`-bit register counts from 0 to `2 ^ w - 1`. -/
theorem register_range : (0 : Rat) ≤ x.toNat ∧ (x.toNat : Rat) ≤ 2 ^ w - 1 := by
  refine ⟨Nat.cast_nonneg _, le_sub_iff_add_le.mpr ?_⟩
  exact_mod_cast x.isLt

/-- A register counted in steps of `1 / c`. -/
theorem register_div_range {c : Rat} (hc : 0 ≤ c) :
    0 ≤ (x.toNat : Rat) / c ∧ (x.toNat : Rat) / c ≤ (2 ^ w - 1) / c :=
  ⟨div_nonneg (register_range x).1 hc, div_le_div_of_nonneg_right (register_range x).2 hc⟩

end

namespace Snapshot
variable (n : Snapshot)

/-- The bias of `CUR_BIAS` makes the current signed (R203). -/
theorem batteryCurrent_eq : n.batteryCurrent = ((n.iRaw.toNat : Rat) - 2000000) / 1000 := by
  simp [batteryCurrent, currentMilliAmp, Config.curBias]

theorem batteryCurrent_range : -2000 ≤ n.batteryCurrent ∧ n.batteryCurrent ≤ 14777215 / 1000 := by
  obtain ⟨hlow, hhigh⟩ := register_range n.iRaw
  rw [batteryCurrent_eq]
  constructor
  · linarith
  · linarith

theorem temperature_range : -40 ≤ n.temperature ∧ n.temperature ≤ 175 / 2 := by
  obtain ⟨hlow, hhigh⟩ := register_range n.tRaw
  rw [temperature]
  constructor
  · linarith
  · linarith

/-- The integer form of R207, in millivolts. -/
theorem optimumChargeVoltage_eq_milliVolt :
    n.optimumChargeVoltage = ((5000 + 50 * n.ocvRaw.toNat : Nat) : Rat) / 1000 := by
  rw [optimumChargeVoltage]
  push_cast
  ring

theorem optimumChargeVoltage_range : 5 ≤ n.optimumChargeVoltage ∧ n.optimumChargeVoltage ≤ 71 / 4 := by
  obtain ⟨hlow, hhigh⟩ := register_range n.ocvRaw
  rw [optimumChargeVoltage]
  constructor
  · linarith
  · linarith

theorem nominalCapacity_le : n.nominalCapacity ≤ 255 := Nat.le_of_lt_succ n.capNomRaw.isLt

end Snapshot

/-- Settles O44: six of the values are a register over a constant; the current, the temperature and the optimum charge
voltage are shifted too. -/
theorem physicalValueFunctionsAndRanges : Obligations.PhysicalValueFunctionsAndRanges := by
  intro n
  have hword (x : BitVec 16) {c : Rat} (hc : 0 ≤ c) :
      0 ≤ (x.toNat : Rat) / c ∧ (x.toNat : Rat) / c ≤ 65535 / c := by
    simpa only [show (2 : Rat) ^ 16 - 1 = 65535 by norm_num] using register_div_range x hc
  have hhalf (x : Byte) : 0 ≤ (x.toNat : Rat) / 2 ∧ (x.toNat : Rat) / 2 ≤ 255 / 2 := by
    simpa only [show (2 : Rat) ^ 8 - 1 = 255 by norm_num] using register_div_range x zero_le_two
  exact ⟨⟨rfl, hword n.vRaw (by norm_num)⟩, ⟨n.batteryCurrent_eq, n.batteryCurrent_range⟩,
    ⟨rfl, n.temperature_range⟩, ⟨rfl, hhalf n.socRaw⟩, ⟨rfl, hhalf n.sohRaw⟩,
    ⟨rfl, n.optimumChargeVoltage_eq_milliVolt, n.optimumChargeVoltage_range⟩, ⟨rfl, hword n.riRaw (by norm_num)⟩,
    ⟨rfl, hword n.capAvailRaw (by norm_num)⟩, ⟨rfl, hword n.capDisRaw (by norm_num)⟩, ⟨rfl, n.nominalCapacity_le⟩⟩

end Sys2Proof.Machine
end

section
/-! Proofs for 60_exceptions.md: the refusals of R240 and the sticky `CMDERR`, and the failure transition (R235). -/

namespace Sys2Proof.Machine

/-! ### Refused commands -/

theorem refuse_eq (s : State) : refuse s = { s with status := { s.status with cmdErr := true } } := rfl

/-- SEND and RECV are accepted on an open transport with a legal length, and refused in every other case (R116, R120). -/
theorem transportCmd_refused (E : Env) (id : FrameId) (len : BitVec 4) (pver : BitVec 2) (s : State)
    (h : s.status.opened = false ∨ 9 ≤ len.toNat) :
    sendCmd E id len pver s = refuse s ∧ recvCmd E id len pver s = refuse s := by
  have hnot (hopen : s.status.opened = true) (hlen : len.toNat ≤ 8) : False := by
    obtain hclosed | hlong := h
    · exact Bool.false_ne_true (hclosed.symm.trans hopen)
    · omega
  obtain ⟨hsend, hrecv, -⟩ := transportCmd_cases E s
  constructor
  · exact (hsend id len pver).resolve_right fun ⟨hopen, hlen, _⟩ => hnot hopen hlen
  · exact (hrecv id len pver).resolve_right fun ⟨hopen, hlen, _⟩ => hnot hopen hlen

/-- OPEN with `baud = 0` is refused and closes the transport (R114). -/
theorem openCmd_zero (E : Env) (s : State) :
    openCmd E 0 s = { s with status := { s.status with opened := false, cmdErr := true } } := rfl

/-! ### `CMDERR` is sticky -/

theorem tickCmd_cmdErr (E : Env) (s : State) : (tickCmd E s).status.cmdErr = s.status.cmdErr := by
  have hpart := tickCmd_hostPart E s
  simp only [hostPart, Prod.mk.injEq] at hpart
  obtain ⟨-, -, -, -, -, -, -, -, -, hcmdErr⟩ := hpart
  exact hcmdErr

theorem BusOp.cmdErr_eq {s t : State} (h : BusOp s t) : t.status.cmdErr = s.status.cmdErr := by
  rw [h.frame]

/-- OPEN sets the flag when it is refused and leaves it alone in its two other cases (R114). -/
theorem openCmd_keeps_cmdErr (E : Env) (baud : BitVec 24) {s : State} (h : s.status.cmdErr = true) :
    (openCmd E baud s).status.cmdErr = true := by
  obtain ⟨-, hopen⟩ | ⟨-, -, hopen⟩ | ⟨-, -, hopen⟩ := openCmd_cases E baud s
  · rw [hopen]
  · rw [hopen]; exact h
  · rw [hopen]; exact h

/-- No command clears `CMDERR` (R240). -/
theorem exec_decodeCmd_keeps_cmdErr {w : Word32} {s t : State} (hexec : exec (decodeCmd w) s = .next t)
    (h : s.status.cmdErr = true) : t.status.cmdErr = true := by
  obtain rfl | ⟨baud, rfl⟩ | hbus | ⟨-, rfl⟩ | ⟨cap, btype, rfl⟩ | ⟨en, rfl⟩ := exec_decodeCmd_cases hexec
  · rfl
  · exact openCmd_keeps_cmdErr Config.env baud h
  · exact hbus.cmdErr_eq.trans h
  · exact (tickCmd_cmdErr Config.env s).trans h
  · exact h
  · exact h

/-- No step clears `CMDERR`: what is not a command does not write `STATUS` (R62, R240). -/
theorem step_keeps_cmdErr {s t : State} (hstep : step s = .next t) (h : s.status.cmdErr = true) :
    t.status.cmdErr = true := by
  obtain ⟨w, rest, -, hexec⟩ | hframe := step_command_or_frame hstep
  · exact exec_decodeCmd_keeps_cmdErr hexec h
  · rw [hframe]
    exact h

/-- Settles O15: each refused command is `refuse`, OPEN closes the transport too, and no step clears the flag. -/
theorem refusalsSetTheStickyCmdErr : Obligations.RefusalsSetTheStickyCmdErr := by
  refine ⟨fun s => ⟨fun i hi => ?_, fun id len pver h => ?_, fun hclosed => ?_, ?_, ?_⟩,
    fun _ _ => step_keeps_cmdErr⟩
  · rw [exec_reserved hi, refuse_eq]
  · obtain ⟨hsend, hrecv⟩ := transportCmd_refused Config.env id len pver s h
    rw [exec_send, exec_recv, hsend, hrecv, refuse_eq]
    exact ⟨rfl, rfl⟩
  · rw [exec_sleep, sleepCmd_closed Config.env s hclosed, refuse_eq]
  · rw [exec_openBus, openCmd_zero]
  · exact ⟨tickCmd Config.env s, exec_tick s, tickCmd_cmdErr Config.env s⟩

/-! ### The failure transition -/

/-- The failure transition writes `STATE` and `T_LAST`, and clears the selection (R235). -/
theorem deviceLost_eq (E : Env) (s : State) :
    deviceLost E s = { s with
      state := .nodev
      tLast := s.time
      cand := 0
      devIdx := 0
      status := { s.status with available := false } } := rfl

/-- Without an answer a state behind `T_STEP` takes the branch of the silence (R155, R231). -/
theorem next_of_silence {gate : Nat} {s lost found : State} (hgate : gate ≤ elapsed s) (hio : s.lastIo = 0) :
    (.next (if gate ≤ elapsed s then if s.lastIo = 0 then lost else found else s) :
      Host.Outcome State Fault Refusal) = .next lost := by
  rw [if_pos hgate, if_pos hio]

/-- Settles O28: in each of the four rows the branch of the silence is the failure transition. -/
theorem noAnswerLosesTheDevice : Obligations.NoAnswerLosesTheDevice := by
  intro s hstep hio
  rw [← deviceLost_eq Config.env s]
  simp only [List.forall_mem_cons, List.not_mem_nil, false_implies, implies_true, and_true]
  exact ⟨next_of_silence hstep hio, next_of_silence hstep hio, next_of_silence hstep hio, next_of_silence hstep hio⟩

end Sys2Proof.Machine
end
